-- ==== Sys2Proof/Word.lean ====
section
/-! DEFINITION. The word types of the TOTEM core: 00_scope.md R9 fixes the widths. -/

namespace Sys2Proof

/-- 8 bits: one byte of a byte string, of key memory or of an array register. -/
abbrev Byte := BitVec 8

/-- 32 bits: KEYLEN, CODE31 and every word of the SHA-1 unit. -/
abbrev Word32 := BitVec 32

/-- 64 bits: TIME, TIMESTEP, COUNTER and CODEVAL. -/
abbrev Word64 := BitVec 64

end Sys2Proof
end

