-- ==== Sys2Proof/Config.lean ====
section
/-! DEFINITION. What an instance of the core fixes (KEY_MAX) and the free values (the clock samples): 00_scope.md R9,
60_exceptions.md R145. -/

namespace Sys2Proof

/-- One sample of the clock port (60_exceptions.md R144): the two inputs `now_valid` and `now_sec`. -/
structure ClockSample where
  /-- `now_valid`: the reading is good. -/
  valid : Bool
  /-- `now_sec`: whole seconds since the Unix origin, unsigned. -/
  sec : Word64
  deriving DecidableEq, Repr, Inhabited

/-- `KEY_MAX` (00_scope.md R9, 92_eei_decisions.md D5): the capacity of key memory in bytes. The spec leaves it OPEN,
"a natural number the model takes as an argument", so it has no body: what is proved holds for every capacity.
DESIGN CHOICE (log entry 5), safe. -/
opaque Config.keyMax : Nat

/-- The free clock samples (60_exceptions.md R145, "Nothing else in the core is non-deterministic"): the `n`-th sample drawn
from the port when the run states none. No body: nothing is known of any sample, nor of two samples together.
DESIGN CHOICE (log entry 4), safe. -/
opaque Config.clockSample : Nat → ClockSample

end Sys2Proof
end

