-- ==== Sys2Proof/Syntax.lean ====
section
/-! DEFINITION. The commands of the core (its instructions), the locations of register space R, and what the host can do to
the core. -/

namespace Sys2Proof

/-- The four commands (30_encoding.md R60), one per row of the opcode table. A command has no operand field (R61). -/
inductive Instr where
  /-- SIGN, opcode 0x01 (42_hmac_sign.md R98). -/
  | sign
  /-- GENAT, opcode 0x02 (45_commands.md R120). -/
  | genat
  /-- GENNOW, opcode 0x03 (45_commands.md R121). -/
  | gennow
  /-- CLEAR, opcode 0x04 (45_commands.md R122). -/
  | clear
  deriving DecidableEq, Repr

/-- The 58 mapped locations of space R, by the names of 10_state.md R14. -/
inductive Loc where
  | cmd
  | status
  | keyLen
  | digits
  | timestep
  | time
  | counter
  | offset
  | code31
  | codeVal
  | codeLen
  | msg (i : Fin 8)
  | digest (i : Fin 20)
  | codeStr (i : Fin 19)
  deriving DecidableEq, Repr

/-- What the host can do to the core: the five kinds of transaction of 20_memory.md R42 and the reset input of
70_reset_and_hazards.md R151. Values, key indices and key bytes are plain numbers, because R49 speaks of those that do
not fit; a location number is one of the 256 of space R (R41). -/
inductive HostEvent where
  /-- `WR n, v`. -/
  | wr (n : Byte) (v : Nat)
  /-- `RD n`. -/
  | rd (n : Byte)
  /-- `WRK i, b`. -/
  | wrk (i b : Nat)
  /-- `RDK i`. -/
  | rdk (i : Nat)
  /-- `CMD c`, which is `WR 0x00, c`. -/
  | cmd (c : Byte)
  /-- The reset input is asserted (R151). -/
  | rst
  deriving DecidableEq, Repr

/-- The value a read returns, a number of the location's own width (20_memory.md R45). -/
inductive ReadValue where
  | byte (v : Byte)
  | word32 (v : Word32)
  | word64 (v : Word64)
  deriving DecidableEq, Repr

end Sys2Proof
end

