-- ==== Sys2Proof/Machine/State.lean ====
section
/-! DEFINITION. The state of the TOTEM core as plain data: 10_state.md R14 (registers), R21 (key memory), R26 to R28 (hidden
state), and beside it what stands outside the core (the host and the clock source, R13). -/

namespace Sys2Proof.Machine

/-- STATUS.ERR (10_state.md R17, 60_exceptions.md R130): the fault codes 0 to 5. "codes 6 to 15 are never produced", so
the type has no such value (93_implementation_defined.md U11). -/
inductive Err where
  /-- 0: no fault. -/
  | noFault
  /-- 1, ERR_CMD: an illegal command byte (R132). -/
  | cmd
  /-- 2, ERR_TIMESTEP: `TIMESTEP = 0` (R133). -/
  | timestep
  /-- 3, ERR_KEYLEN: `KEYLEN > KEY_MAX` (R134). -/
  | keyLen
  /-- 4, ERR_DIGITS: `DIGITS = 0` or `DIGITS > 19` (R135). -/
  | digits
  /-- 5, ERR_CLOCK: the clock sample is not valid (R136). -/
  | clock
  deriving DecidableEq, Repr

/-- Key memory, space K (10_state.md R21): the nonzero bytes, by strictly rising index (`Memory.wf`). An unlisted index
reads 0x00, the reset content (70_reset_and_hazards.md R152). -/
abbrev Memory := List Host.Cell

/-- Five 32-bit words: a chaining value `(H0, H1, H2, H3, H4)` or the working registers `(a, b, c, d, e)`
(41_sha1.md R80, R84). -/
structure Words5 where
  a : Word32
  b : Word32
  c : Word32
  d : Word32
  e : Word32
  deriving DecidableEq, Repr

/-- All five words zero. -/
def Words5.zero : Words5 := ⟨0, 0, 0, 0, 0⟩

/-- The hidden registers of the SHA-1 engine (10_state.md R26, 41_sha1.md R89). -/
structure Sha1Engine where
  /-- The chaining registers `H0..H4`. -/
  chain : Words5
  /-- The working registers `a, b, c, d, e`. -/
  work : Words5
  /-- The message schedule, kept whole (R26: "16-word (or 80-word)"). -/
  schedule : Vector Word32 80
  /-- The 64-byte block buffer. -/
  block : Vector Byte 64
  /-- The message length counter, in bytes (R89: "a byte counter for the length field"). -/
  length : Word64
  deriving DecidableEq, Repr

/-- The engine with every register zero. -/
def Sha1Engine.zero : Sha1Engine := ⟨.zero, .zero, Vector.replicate 80 0, Vector.replicate 64 0, 0⟩

/-- The hidden registers of the HMAC unit (10_state.md R27) and of the SHA-1 engine inside it. -/
structure HmacUnit where
  /-- The key block `K0`. -/
  keyBlock : Vector Byte 64
  /-- The 20-byte hash of a long key. -/
  keyHash : Vector Byte 20
  /-- The padded key block `K0 ^ ipad`. -/
  innerKey : Vector Byte 64
  /-- The padded key block `K0 ^ opad`. -/
  outerKey : Vector Byte 64
  /-- The inner digest. -/
  innerDigest : Vector Byte 20
  /-- The SHA-1 engine. -/
  sha : Sha1Engine
  deriving DecidableEq, Repr

/-- The unit with every register zero, as `scrub_internal` leaves it (45_commands.md R118). -/
def HmacUnit.zero : HmacUnit :=
  ⟨Vector.replicate 64 0, Vector.replicate 20 0, Vector.replicate 64 0, Vector.replicate 64 0, Vector.replicate 20 0, .zero⟩

/-- The hidden latch of a clock sample when it holds none (10_state.md R28, 45_commands.md R118). -/
def noSample : ClockSample := ⟨false, 0⟩

/-- What stands outside the core (10_state.md R13, R16, R29): the model's own fields, none of them state of the core.
No command and no reset changes what the host has yet to do or has read. -/
structure Env where
  /-- The host's remaining transactions and reset events, oldest first (R16; log entry 1). -/
  pending : List HostEvent
  /-- The values the host's reads have returned, oldest first (70_reset_and_hazards.md R163; log entry 3). -/
  returned : List ReadValue
  /-- The clock port's stated samples, oldest first; when there is none left a sample is free (log entry 4). -/
  clockSamples : List ClockSample
  /-- How many samples have been drawn: the index of the next free sample (log entry 4). -/
  clockDraws : Nat
  deriving DecidableEq, Repr

/-- Nothing to do, nothing read, no sample stated or drawn. DESIGN CHOICE (log entries 1, 3 and 4): the model's own fields. -/
def Env.empty : Env := ⟨[], [], [], 0⟩

/-- The state: every register of 10_state.md R14 but CMD, which "is not a storage register" (R18), key memory, the hidden
state, and the outside. STATUS is held as its fields (log entry 8). -/
structure State where
  /-- STATUS bits 3:0, ERR (R17). -/
  err : Err
  /-- STATUS bit 4, V_SIGN (R17). -/
  vSign : Bool
  /-- STATUS bit 5, V_CODE (R17). -/
  vCode : Bool
  /-- KEYLEN. -/
  keyLen : Word32
  /-- DIGITS. -/
  digits : Byte
  /-- TIMESTEP. -/
  timestep : Word64
  /-- TIME. -/
  time : Word64
  /-- COUNTER. -/
  counter : Word64
  /-- OFFSET. -/
  offset : Byte
  /-- CODE31. -/
  code31 : Word32
  /-- CODEVAL. -/
  codeVal : Word64
  /-- CODELEN. -/
  codeLen : Byte
  /-- MSG[0..7]. -/
  msg : Vector Byte 8
  /-- DIGEST[0..19]. -/
  digest : Vector Byte 20
  /-- CODESTR[0..18]. -/
  codeStr : Vector Byte 19
  /-- KEY[0..KEY_MAX-1] (R21). -/
  key : Memory
  /-- The hidden registers of the HMAC unit (R26, R27). -/
  hmac : HmacUnit
  /-- The hidden latch of GENNOW's clock sample (R28). -/
  clockLatch : ClockSample
  /-- What stands outside the core. -/
  env : Env
  deriving DecidableEq, Repr

/-- The reset state (70_reset_and_hazards.md R152): every register 0, key memory 0x00, STATUS 0x00, hidden state 0. -/
def State.reset : State where
  err := .noFault
  vSign := false
  vCode := false
  keyLen := 0
  digits := 0
  timestep := 0
  time := 0
  counter := 0
  offset := 0
  code31 := 0
  codeVal := 0
  codeLen := 0
  msg := Vector.replicate 8 0
  digest := Vector.replicate 20 0
  codeStr := Vector.replicate 19 0
  key := []
  hmac := .zero
  clockLatch := noSample
  env := .empty

/-- The model stops: the host named an address that does not exist (20_memory.md R41, R49: "a model has no step"). No
command ends so: the spec's own faults are next states with ERR set (60_exceptions.md R140). -/
inductive Fault where
  /-- `WR` or `RD` of one of the 198 unmapped numbers of space R; raised by `hostWrite` and `hostRead`. Safe: the
  hardware may go on in an implementation-defined way (93_implementation_defined.md U1, U12). -/
  | unmappedLocation (n : Byte)
  /-- `WRK` or `RDK` with an index at or above KEY_MAX; raised by `hostWriteKey` and `hostReadKey`. Safe (U1). -/
  | keyIndexOutOfRange (i : Nat)
  deriving DecidableEq, Repr

/-- The model has no step: the spec gives the transaction no meaning (20_memory.md R49). -/
inductive Refusal where
  /-- A command rejected by name in exec because it has no meaning yet; no arm of exec answers so. Safe. -/
  | notModelled (mnemonic : String)
  /-- `WR` to a read-only location; raised by `hostWrite`. Safe: what silicon does is implementation-defined (U1). -/
  | readOnlyLocation (n : Byte)
  /-- `WR` of a value that does not fit the location's width; raised by `hostWrite`. Safe (U1). -/
  | valueTooWide (n : Byte) (v : Nat)
  /-- `WRK` of a byte above 255; raised by `hostWriteKey`. Safe (U1). -/
  | keyByteTooWide (b : Nat)
  deriving DecidableEq, Repr

end Sys2Proof.Machine
end

