-- ==== Sys2Proof/Machine/Ops.lean ====
section
/-! DEFINITION. The named operations over key memory and the registers, and the shared entries: taking a fault
(60_exceptions.md R140) and the return from one (45_commands.md R122, 60_exceptions.md R142). -/

namespace Sys2Proof.Machine

/-- The canonical form of key memory: indices strictly rising, no entry that holds what an unlisted index reads as. -/
abbrev Memory.wf (m : Memory) : Prop := m.Pairwise (fun c d => c.1 < d.1) ∧ ∀ c ∈ m, c.2 ≠ 0

/-- What an unlisted index reads as: the reset content 0x00 (70_reset_and_hazards.md R152). -/
def unlistedByte : Byte := 0x00

/-- `MemRead(K, i, 1)` (20_memory.md R47): one byte of key memory. -/
def Memory.read : Memory → Nat → Byte
  | [], _ => unlistedByte
  | (j, b) :: m, i => if j = i then b else Memory.read m i

/-- A cell put before the rest, unless its byte is what an unlisted index reads as. -/
def Memory.cons (i : Nat) (b : Byte) (m : Memory) : Memory := if b = unlistedByte then m else (i, b) :: m

/-- `MemWrite(K, i, 1, b)` (20_memory.md R46), keeping the canonical form. -/
def Memory.write : Memory → Nat → Byte → Memory
  | [], i, b => Memory.cons i b []
  | (j, c) :: m, i, b =>
    if i < j then Memory.cons i b ((j, c) :: m)
    else if i = j then Memory.cons i b m
    else (j, c) :: Memory.write m i b

/-- `results_clear()` (45_commands.md R117): every result register, V_SIGN and V_CODE to 0; nothing else. -/
def resultsClear (s : State) : State :=
  { s with
    vSign := false
    vCode := false
    counter := 0
    offset := 0
    code31 := 0
    codeVal := 0
    codeLen := 0
    msg := Vector.replicate 8 0
    digest := Vector.replicate 20 0
    codeStr := Vector.replicate 19 0 }

/-- `scrub_internal()` (45_commands.md R118): every piece of hidden state to zero. -/
def scrubInternal (s : State) : State := { s with hmac := .zero, clockLatch := noSample }

/-- Taking a fault, `raise Fault(code)` (60_exceptions.md R140): results cleared, ERR set, hidden state scrubbed, the
command ended. "Nothing is saved anywhere else" and operands and key memory are untouched. -/
def raiseFault (e : Err) (s : State) : State := scrubInternal { resultsClear s with err := e }

/-- `do_clear()` (45_commands.md R122), which is also the return from a fault (60_exceptions.md R142). -/
def doClear (s : State) : State :=
  scrubInternal
    { resultsClear { s with key := [], keyLen := 0, digits := 0, timestep := 0, time := 0 } with err := .noFault }

/-- The reset input (70_reset_and_hazards.md R151, R152): the core goes to the reset state from any state. The host and the
clock source stand outside the core and are not reset. DEDUCED (log entry 9), safe. -/
def resetCore (s : State) : State := { State.reset with env := s.env }

/-- The state with another list of host events to come. -/
def withPending (evs : List HostEvent) (s : State) : State := { s with env := { s.env with pending := evs } }

/-- A read hands its value to the host (20_memory.md R45); nothing of the core changes. -/
def giveToHost (v : ReadValue) (s : State) : State := { s with env := { s.env with returned := s.env.returned ++ [v] } }

/-- The sample the clock port gives next (60_exceptions.md R144, R145): the next one the run states, else a free value. -/
def nextSample (s : State) : ClockSample :=
  match s.env.clockSamples with
  | [] => Config.clockSample s.env.clockDraws
  | c :: _ => c

/-- One sample is drawn (R145): it is latched in hidden state (10_state.md R28) and the port moves on to the next. -/
def drawSample (s : State) : State :=
  { s with
    clockLatch := nextSample s
    env := { s.env with clockSamples := s.env.clockSamples.tail, clockDraws := s.env.clockDraws + 1 } }

end Sys2Proof.Machine
end

