-- ==== Sys2Proof/Machine/Control.lean ====
section
/-! DEFINITION. The command CLEAR (45_commands.md R122) and what an illegal command byte does (60_exceptions.md R132, R141). -/

namespace Sys2Proof.Machine

/-- CLEAR (R122): accepted in every state, faulted or not; never faults. -/
def execClear (s : State) : Host.Outcome State Fault Refusal := .next (doClear s)

/-- An ILLEGAL command byte (45_commands.md R116): ERR_CMD when no fault is latched, ignored otherwise. -/
def illegalCommand (s : State) : State := if s.err ≠ .noFault then s else raiseFault .cmd s

end Sys2Proof.Machine
end

