-- ==== Sys2Proof/Machine/Digits.lean ====
section
/-! DEFINITION. Stage 4, the modulo digit reducer and decimal renderer (44_digit_reducer.md). -/

namespace Sys2Proof.Machine

/-- `pow10(n)` (R108), for `1 <= n <= 19` only (R110): `10^n` as a 64-bit number. -/
def pow10 (n : Nat) (_range : 1 ≤ n ∧ n ≤ 19) : Word64 := BitVec.ofNat 64 (10 ^ n)

/-- `reduce(code31, digits)` (R109): `zext_64(code31) mod pow10(digits)`. -/
def reduceCode (code31 : Word32) (n : Nat) (range : 1 ≤ n ∧ n ≤ 19) : Word64 :=
  code31.setWidth 64 % pow10 n range

/-- Character `i` of `render(v, n)` (R111): `0x30 + ((v div 10^(n-1-i)) mod 10)`. -/
def renderChar (v : Word64) (n i : Nat) : Byte := BitVec.ofNat 8 (0x30 + v.toNat / 10 ^ (n - 1 - i) % 10)

/-- CODESTR (R112): the `n` characters of `render(v, n)`, then zero bytes. -/
def codeString (v : Word64) (n : Nat) : Vector Byte 19 :=
  Vector.ofFn fun i => if i.val < n then renderChar v n i else 0x00

/-- The register writes of stage 4 (R112), with `n = DIGITS`. -/
def stage4 (digits : Byte) (range : 1 ≤ digits.toNat ∧ digits.toNat ≤ 19) (s : State) : State :=
  let v := reduceCode s.code31 digits.toNat range
  { s with codeVal := v, codeLen := digits, codeStr := codeString v digits.toNat }

end Sys2Proof.Machine
end

