-- ==== Sys2Proof/Machine/Bytes.lean ====
section
/-! DEFINITION. Byte strings and 32-bit words: the notation of 00_scope.md R10 (BE_n, be_val, rotl32). -/

namespace Sys2Proof.Machine

/-- Byte `i` of `BE_n(v)` (R10): `(v div 2^(8*(n-1-i))) mod 256`, most significant byte first. -/
def beByte (n v i : Nat) : Byte := BitVec.ofNat 8 (v / 2 ^ (8 * (n - 1 - i)))

/-- `BE_n(v)` (R10): the `n`-byte string that holds `v`, most significant byte first. -/
def beBytes (n v : Nat) : Vector Byte n := Vector.ofFn fun i => beByte n v i

/-- `be_val(s)` (R10), the inverse of `BE_n`: the first byte is the most significant. -/
def beVal (s : List Byte) : Nat := s.foldl (fun acc b => acc * 256 + b.toNat) 0

/-- `rotl32(x, n)` (R10), for `0 < n < 32`: left rotation of a 32-bit word. -/
def rotl32 (x : Word32) (n : Nat) : Word32 := (x <<< n) ||| (x >>> (32 - n))

/-- A byte string cut or zero-padded on the right to exactly `n` bytes. -/
def zeroPad (n : Nat) (s : List Byte) : Vector Byte n := Vector.ofFn fun i => s.getD i 0

end Sys2Proof.Machine
end

