-- ==== Sys2Proof/Decode.lean ====
section
/-! DEFINITION. Decoding of command bytes and of location numbers, and the encoders beside them (30_encoding.md section 2,
10_state.md R14). -/

namespace Sys2Proof

/-- What a command byte decodes to (30_encoding.md R62): one of the four commands, or ILLEGAL. -/
inductive Decoded where
  | instr (i : Instr)
  | illegal
  deriving DecidableEq, Repr

/-- `decode(c)` (R62), total on the 256 command bytes: 0x00 and 0x05 to 0xFF are ILLEGAL. -/
def decode (c : Byte) : Decoded :=
  if c = 0x01 then .instr .sign
  else if c = 0x02 then .instr .genat
  else if c = 0x03 then .instr .gennow
  else if c = 0x04 then .instr .clear
  else .illegal

/-- The one byte of a command (R59, R60, R64). -/
def encode : Instr → Byte
  | .sign => 0x01
  | .genat => 0x02
  | .gennow => 0x03
  | .clear => 0x04

/-- The instruction in a word of `nbits` bits, numbered as the opcode table numbers them: "it is always one byte" (R64), so a
word of any other length, shorter or longer, and a number that does not fit a byte are no command. -/
def decodeTableWord (nbits w : Nat) : Option Instr :=
  if nbits = 8 ∧ w < 2 ^ 8 then
    match decode (BitVec.ofNat 8 w) with
    | .instr i => some i
    | .illegal => none
  else none

/-- The number of a location in space R (10_state.md R14). -/
def Loc.number : Loc → Byte
  | .cmd => 0x00
  | .status => 0x01
  | .keyLen => 0x02
  | .digits => 0x03
  | .timestep => 0x04
  | .time => 0x05
  | .counter => 0x08
  | .offset => 0x09
  | .code31 => 0x0A
  | .codeVal => 0x0B
  | .codeLen => 0x0C
  | .msg i => BitVec.ofNat 8 (0x10 + i)
  | .digest i => BitVec.ofNat 8 (0x20 + i)
  | .codeStr i => BitVec.ofNat 8 (0x40 + i)

/-- The location with a given number; the other 198 numbers are unmapped (10_state.md R14, 20_memory.md R41). -/
def locate (n : Byte) : Option Loc :=
  let k := n.toNat
  if k = 0x00 then some .cmd
  else if k = 0x01 then some .status
  else if k = 0x02 then some .keyLen
  else if k = 0x03 then some .digits
  else if k = 0x04 then some .timestep
  else if k = 0x05 then some .time
  else if k = 0x08 then some .counter
  else if k = 0x09 then some .offset
  else if k = 0x0A then some .code31
  else if k = 0x0B then some .codeVal
  else if k = 0x0C then some .codeLen
  else if h : 0x10 ≤ k ∧ k < 0x18 then some (.msg ⟨k - 0x10, by omega⟩)
  else if h : 0x20 ≤ k ∧ k < 0x34 then some (.digest ⟨k - 0x20, by omega⟩)
  else if h : 0x40 ≤ k ∧ k < 0x53 then some (.codeStr ⟨k - 0x40, by omega⟩)
  else none

/-- The width of a location in bits (10_state.md R14, 20_memory.md R43). -/
def Loc.width : Loc → Nat
  | .keyLen | .code31 => 32
  | .timestep | .time | .counter | .codeVal => 64
  | .cmd | .status | .digits | .offset | .codeLen => 8
  | .msg _ | .digest _ | .codeStr _ => 8

/-- The locations the host may write (the W column of 10_state.md R14); every mapped location may be read. -/
def Loc.hostWrites : Loc → Bool
  | .cmd | .keyLen | .digits | .timestep | .time => true
  | .status | .counter | .offset | .code31 | .codeVal | .codeLen => false
  | .msg _ | .digest _ | .codeStr _ => false

end Sys2Proof
end

