-- ==== Sys2Proof/Machine/Flags.lean ====
section
/-! DEFINITION. STATUS: the fault codes, the two valid flags and the word the host reads (10_state.md R17, 60_exceptions.md
R130). -/

namespace Sys2Proof.Machine

/-- The numeric fault code in STATUS bits 3:0 (60_exceptions.md R130). -/
def errCode : Err → BitVec 4
  | .noFault => 0
  | .cmd => 1
  | .timestep => 2
  | .keyLen => 3
  | .digits => 4
  | .clock => 5

/-- The STATUS word (10_state.md R17): bits 7:6 zero, V_CODE, V_SIGN, ERR. -/
def statusWord (s : State) : Byte :=
  0#2 ++ BitVec.ofBool s.vCode ++ BitVec.ofBool s.vSign ++ errCode s.err

/-- `V_SIGN <- 1` (42_hmac_sign.md R98). -/
def setVSign (s : State) : State := { s with vSign := true }

/-- `V_CODE <- 1` (45_commands.md R120). -/
def setVCode (s : State) : State := { s with vCode := true }

/-- The values of STATUS that can occur (10_state.md R17). -/
def legalStatus : List Byte := [0x00, 0x10, 0x30, 0x01, 0x02, 0x03, 0x04, 0x05]

end Sys2Proof.Machine
end

