-- ==== Sys2Proof/Machine/Operands.lean ====
section
/-! DEFINITION. Every operand form: the checked operands of a command (45_commands.md R119), and the locations of space R as
the host reads and writes them (10_state.md R14, 20_memory.md R44, R45). -/

namespace Sys2Proof.Machine

/-- The secret of a command, `KEY[0 .. KEYLEN-1]` (10_state.md R21), read once, in index order (42_hmac_sign.md R92). -/
def secret (s : State) : List Byte := (List.range s.keyLen.toNat).map (Memory.read s.key)

/-- The operands of SIGN once accepted: the divisor comes with the proof that it is not zero (40_counter_encoder.md R73). -/
structure SignerOperands where
  key : List Byte
  timestep : Word64
  time : Word64
  timestep_ne : timestep ≠ 0

/-- The operands of GENAT and GENNOW once accepted: `1 <= digits <= 19` (44_digit_reducer.md R110). -/
structure CodeOperands extends SignerOperands where
  digits : Byte
  digits_pos : 1 ≤ digits.toNat
  digits_le : digits.toNat ≤ 19

/-- The operands of SIGN as a state holds them. -/
def signerOperands (s : State) (h : s.timestep ≠ 0) : SignerOperands := ⟨secret s, s.timestep, s.time, h⟩

/-- The operands of GENAT as a state holds them. -/
def codeOperands (s : State) (h : s.timestep ≠ 0) (range : 1 ≤ s.digits.toNat ∧ s.digits.toNat ≤ 19) : CodeOperands :=
  { signerOperands s h with digits := s.digits, digits_pos := range.1, digits_le := range.2 }

/-- `validate(SIGN)` (45_commands.md R119): TIMESTEP, then KEYLEN; the first check that fails gives its fault. -/
def validateSigner (keyMax : Nat) (s : State) : Except Err SignerOperands :=
  if h : s.timestep = 0 then .error .timestep
  else if keyMax < s.keyLen.toNat then .error .keyLen
  else .ok (signerOperands s h)

/-- `validate(GENAT)` and `validate(GENNOW)` (R119): TIMESTEP, then KEYLEN, then DIGITS. -/
def validateCode (keyMax : Nat) (s : State) : Except Err CodeOperands :=
  if h : s.timestep = 0 then .error .timestep
  else if keyMax < s.keyLen.toNat then .error .keyLen
  else if range : 1 ≤ s.digits.toNat ∧ s.digits.toNat ≤ 19 then .ok (codeOperands s h range)
  else .error .digits

/-- What a read of a location returns (20_memory.md R45; CMD reads as 0, R48), at the location's own width. -/
def readLoc (s : State) : Loc → ReadValue
  | .cmd => .byte 0x00
  | .status => .byte (statusWord s)
  | .keyLen => .word32 s.keyLen
  | .digits => .byte s.digits
  | .timestep => .word64 s.timestep
  | .time => .word64 s.time
  | .counter => .word64 s.counter
  | .offset => .byte s.offset
  | .code31 => .word32 s.code31
  | .codeVal => .word64 s.codeVal
  | .codeLen => .byte s.codeLen
  | .msg i => .byte s.msg[i]
  | .digest i => .byte s.digest[i]
  | .codeStr i => .byte s.codeStr[i]

/-- A host write of an operand register (20_memory.md R44): the register takes the whole value. No other location is
stored to by a write. -/
def writeOperand (l : Loc) (v : Nat) (s : State) : State :=
  match l with
  | .keyLen => { s with keyLen := BitVec.ofNat 32 v }
  | .digits => { s with digits := BitVec.ofNat 8 v }
  | .timestep => { s with timestep := BitVec.ofNat 64 v }
  | .time => { s with time := BitVec.ofNat 64 v }
  | .cmd | .status | .counter | .offset | .code31 | .codeVal | .codeLen => s
  | .msg _ | .digest _ | .codeStr _ => s

end Sys2Proof.Machine
end

