-- ==== Sys2Proof/Machine/Counter.lean ====
section
/-! DEFINITION. Stage 1, the counter encoder (40_counter_encoder.md). -/

namespace Sys2Proof.Machine

/-- `counter_of(time, timestep)` (R72): the unsigned floor quotient. `timestep ≠ 0` is a precondition: there is no value at a
zero divisor (R73). -/
def counterOf (time timestep : Word64) (_nonzero : timestep ≠ 0) : Word64 :=
  BitVec.ofNat 64 (time.toNat / timestep.toNat)

/-- `BE_8(counter)` (R74). -/
def be8 (counter : Word64) : Vector Byte 8 := beBytes 8 counter.toNat

/-- The register writes of stage 1 (R75). -/
def stage1 (ops : SignerOperands) (s : State) : State :=
  let c := counterOf ops.time ops.timestep ops.timestep_ne
  { s with counter := c, msg := be8 c }

end Sys2Proof.Machine
end

