-- ==== Sys2Proof/Machine/Sha1.lean ====
section
/-! DEFINITION. The SHA-1 hash primitive, rule by rule (41_sha1.md R77 to R88), and the registers of its engine (R89). -/

namespace Sys2Proof.Machine

/-- `word(B, j)` (R78): the `j`-th big-endian 32-bit word of a block. -/
def blockWord (B : Vector Byte 64) (j : Fin 16) : Word32 :=
  B[4 * j.val] ++ B[4 * j.val + 1] ++ B[4 * j.val + 2] ++ B[4 * j.val + 3]

/-- `sha1_pad(m)` (R79): `m || 0x80 || rep(0x00, z) || BE_8(8*L)` with `z = (55 - L) mod 64`. -/
def sha1Pad (m : List Byte) : List Byte :=
  m ++ 0x80#8 :: List.replicate ((119 - m.length % 64) % 64) 0 ++ (beBytes 8 (8 * m.length)).toList

/-- The initial chaining value (R80). -/
def sha1IV : Words5 := ⟨0x67452301, 0xEFCDAB89, 0x98BADCFE, 0x10325476, 0xC3D2E1F0⟩

/-- The round constant `Kc(t)` (R81). -/
def roundConst (t : Nat) : Word32 :=
  if t < 20 then 0x5A827999 else if t < 40 then 0x6ED9EBA1 else if t < 60 then 0x8F1BBCDC else 0xCA62C1D6

/-- The round function `f(t, x, y, z)` (R82): choose, parity, majority, parity. -/
def roundFun (t : Nat) (x y z : Word32) : Word32 :=
  if t < 20 then (x &&& y) ||| (~~~x &&& z)
  else if t < 40 then x ^^^ y ^^^ z
  else if t < 60 then (x &&& y) ||| (x &&& z) ||| (y &&& z)
  else x ^^^ y ^^^ z

/-- The next schedule word (R83) from the words so far, NEWEST FIRST: entry `k` is `W[t-1-k]`. -/
def scheduleNext (ws : List Word32) : Word32 :=
  rotl32 (ws.getD 2 0 ^^^ ws.getD 7 0 ^^^ ws.getD 13 0 ^^^ ws.getD 15 0) 1

/-- `n` more schedule words put before the words so far, newest first. -/
def scheduleExtend : Nat → List Word32 → List Word32
  | 0, ws => ws
  | n + 1, ws => scheduleExtend n (scheduleNext ws :: ws)

/-- The message schedule `W[0..79]` of a block, in order (R83). -/
def schedule (B : Vector Byte 64) : List Word32 :=
  (scheduleExtend 64 (List.ofFn (blockWord B)).reverse).reverse

/-- One round `t` with schedule word `w` (R84): a simultaneous shift of the five registers. -/
def sha1Round (t : Nat) (w : Word32) (s : Words5) : Words5 :=
  { a := rotl32 s.a 5 + roundFun t s.b s.c s.d + s.e + roundConst t + w
    b := s.a
    c := rotl32 s.b 30
    d := s.c
    e := s.d }

/-- The rounds `t, t+1, …` over the schedule words given, in order. -/
def sha1Rounds : Nat → List Word32 → Words5 → Words5
  | _, [], s => s
  | t, w :: ws, s => sha1Rounds (t + 1) ws (sha1Round t w s)

/-- The final addition of R85, word by word modulo `2^32`. -/
def Words5.add (x y : Words5) : Words5 := ⟨x.a + y.a, x.b + y.b, x.c + y.c, x.d + y.d, x.e + y.e⟩

/-- `sha1_compress(H, B)` (R85). -/
def sha1Compress (H : Words5) (B : Vector Byte 64) : Words5 := H.add (sha1Rounds 0 (schedule B) H)

/-- The blocks `B_k = P[64k .. 64k+63]` of a padded message, in increasing `k` (R86). -/
def sha1Blocks (p : List Byte) : List (Vector Byte 64) :=
  (List.range (p.length / 64)).map fun k => zeroPad 64 (p.drop (64 * k))

/-- Word `Hj` of a chaining value, `j = 0..4`. -/
def chainWord (H : Words5) : Nat → Word32
  | 0 => H.a
  | 1 => H.b
  | 2 => H.c
  | 3 => H.d
  | _ => H.e

/-- The digest bytes of a chaining value (R87): `digest[4j + k]` is byte `k` of `BE_4(Hj)`, `H0` first. -/
def serialise (H : Words5) : Vector Byte 20 :=
  Vector.ofFn fun i => beByte 4 (chainWord H (i.val / 4)).toNat (i.val % 4)

/-- `SHA1(m)` (R86, R88). Irreducible: a comparison of two states must not start hashing. -/
@[irreducible] def sha1 (m : List Byte) : Vector Byte 20 := serialise ((sha1Blocks (sha1Pad m)).foldl sha1Compress sha1IV)

/-- What one block leaves in the engine (R85, R89): the working registers after round 79, the schedule, the block, and the
chaining value with the working registers added. -/
def engineAbsorb (e : Sha1Engine) (B : Vector Byte 64) : Sha1Engine :=
  { e with
    chain := sha1Compress e.chain B
    work := sha1Rounds 0 (schedule B) e.chain
    schedule := Vector.ofFn fun t => (schedule B).getD t 0
    block := B }

/-- What the hash of a whole message leaves in the engine (R86, R89). Irreducible, as `sha1` is. -/
@[irreducible] def engineRun (m : List Byte) : Sha1Engine :=
  (sha1Blocks (sha1Pad m)).foldl engineAbsorb { Sha1Engine.zero with chain := sha1IV, length := BitVec.ofNat 64 m.length }

end Sys2Proof.Machine
end

