-- ==== Sys2Proof/Machine/Hmac.lean ====
section
/-! DEFINITION. Stage 2, the HMAC unit (42_hmac_sign.md R91 to R95). -/

namespace Sys2Proof.Machine

/-- `hmac_key_block(key)` (R92): a key longer than 64 bytes is hashed first; then zero-padded to 64 bytes. -/
def hmacKeyBlock (key : List Byte) : Vector Byte 64 :=
  if 64 < key.length then zeroPad 64 (sha1 key).toList else zeroPad 64 key

/-- A 64-byte block with every byte xored with a pad constant (R93). -/
def xorBlock (pad : Byte) (K : Vector Byte 64) : Vector Byte 64 := K.map (· ^^^ pad)

/-- `ipad` (R93). -/
def ipad : Byte := 0x36

/-- `opad` (R93). -/
def opad : Byte := 0x5C

/-- What the inner hash covers: `(K0 ^ ipad) || m` (R94). -/
def innerInput (key m : List Byte) : List Byte := (xorBlock ipad (hmacKeyBlock key)).toList ++ m

/-- The inner digest `inner(key, m)` (R94). -/
def hmacInner (key m : List Byte) : Vector Byte 20 := sha1 (innerInput key m)

/-- What the outer hash covers: `(K0 ^ opad) || inner(key, m)` (R95). -/
def outerInput (key m : List Byte) : List Byte := (xorBlock opad (hmacKeyBlock key)).toList ++ (hmacInner key m).toList

/-- `HMAC_SHA1(key, m)` (R95). -/
def hmacSha1 (key m : List Byte) : Vector Byte 20 := sha1 (outerInput key m)

/-- What the unit's hidden registers hold when the digest is done (10_state.md R26, R27): the key block, the hash of a long
key, the padded blocks, the inner digest, and the engine after the outer hash. DEDUCED (log entry 7), safe. -/
def hmacUnit (key m : List Byte) : HmacUnit :=
  { keyBlock := hmacKeyBlock key
    keyHash := if 64 < key.length then sha1 key else Vector.replicate 20 0
    innerKey := xorBlock ipad (hmacKeyBlock key)
    outerKey := xorBlock opad (hmacKeyBlock key)
    innerDigest := hmacInner key m
    sha := engineRun (outerInput key m) }

/-- Stage 2: `DIGEST <- HMAC_SHA1(key, MSG)` (R91, R98); the unit's hidden registers are used on the way. -/
def stage2 (key : List Byte) (s : State) : State :=
  { s with digest := hmacSha1 key s.msg.toList, hmac := hmacUnit key s.msg.toList }

end Sys2Proof.Machine
end

