-- ==== Sys2Proof/Machine/Signer.lean ====
section
/-! DEFINITION. The Signer's command SIGN (42_hmac_sign.md R98), in the command frame of 45_commands.md R116. -/

namespace Sys2Proof.Machine

/-- Stages 1 and 2: the Signer (00_scope.md R3), the whole of SIGN's computation and the first half of GENAT's and GENNOW's. -/
def signerStages (ops : SignerOperands) (s : State) : State := stage2 ops.key (stage1 ops s)

/-- SIGN (R98) for a key memory of `keyMax` bytes: ignored while faulted, results cleared, operands checked, stages 1 and 2,
V_SIGN set, hidden state scrubbed. -/
def signWith (keyMax : Nat) (s : State) : State :=
  if s.err ≠ .noFault then s
  else
    match validateSigner keyMax (resultsClear s) with
    | .error e => raiseFault e (resultsClear s)
    | .ok ops => scrubInternal (setVSign (signerStages ops (resultsClear s)))

/-- SIGN on this instance. -/
def execSign (s : State) : Host.Outcome State Fault Refusal := .next (signWith Config.keyMax s)

end Sys2Proof.Machine
end

