-- ==== Sys2Proof/Machine/Truncation.lean ====
section
/-! DEFINITION. Stage 3, the dynamic truncation unit (43_truncation.md). -/

namespace Sys2Proof.Machine

/-- `dt_offset(d)` (R102): the low nibble of the last byte. -/
def dtOffset (d : Vector Byte 20) : BitVec 4 := d[19].setWidth 4

/-- Byte `k` of the 4-byte window (20_memory.md R50, 43_truncation.md R104): the index `offset + k` never leaves the digest,
so it is neither reduced, clamped nor checked. -/
def windowByte (d : Vector Byte 20) (k : Fin 4) : Byte :=
  d[(dtOffset d).toNat + k.val]'(by have := (dtOffset d).isLt; have := k.isLt; omega)

/-- `dt_code31(d)` (R103): the window composed big-endian in 32 bits, its first byte masked with 0x7F. -/
def dtCode31 (d : Vector Byte 20) : Word32 :=
  ((windowByte d 0 &&& 0x7F).setWidth 32 <<< 24) ||| ((windowByte d 1).setWidth 32 <<< 16)
    ||| ((windowByte d 2).setWidth 32 <<< 8) ||| (windowByte d 3).setWidth 32

/-- The register writes of stage 3 (R105). -/
def stage3 (s : State) : State := { s with offset := (dtOffset s.digest).setWidth 8, code31 := dtCode31 s.digest }

end Sys2Proof.Machine
end

