-- ==== Sys2Proof/Machine/Generator.lean ====
section
/-! DEFINITION. The Token Generator's commands GENAT (45_commands.md R120) and GENNOW (R121). -/

namespace Sys2Proof.Machine

/-- GENAT "from key <- ... on" (R120): the four stages, both valid flags, the scrub. GENNOW shares it (R121). -/
def generate (ops : CodeOperands) (s : State) : State :=
  scrubInternal (setVCode (setVSign
    (stage4 ops.digits ⟨ops.digits_pos, ops.digits_le⟩ (stage3 (signerStages ops.toSignerOperands s)))))

/-- GENAT (R120) for a key memory of `keyMax` bytes. -/
def genatWith (keyMax : Nat) (s : State) : State :=
  if s.err ≠ .noFault then s
  else
    match validateCode keyMax (resultsClear s) with
    | .error e => raiseFault e (resultsClear s)
    | .ok ops => generate ops (resultsClear s)

/-- GENAT on this instance. -/
def execGenat (s : State) : Host.Outcome State Fault Refusal := .next (genatWith Config.keyMax s)

/-- GENNOW once its configuration checks have passed (R121): one sample; ERR_CLOCK if it is not valid, else TIME takes the
seconds and the rest is GENAT with the new TIME. -/
def generateNow (ops : CodeOperands) (s : State) : State :=
  if (nextSample s).valid then
    generate { ops with time := (nextSample s).sec } { drawSample s with time := (nextSample s).sec }
  else raiseFault .clock (drawSample s)

/-- GENNOW (R121) for a key memory of `keyMax` bytes: the old TIME is not an operand. -/
def gennowWith (keyMax : Nat) (s : State) : State :=
  if s.err ≠ .noFault then s
  else
    match validateCode keyMax (resultsClear s) with
    | .error e => raiseFault e (resultsClear s)
    | .ok ops => generateNow ops (resultsClear s)

/-- GENNOW on this instance. -/
def execGennow (s : State) : Host.Outcome State Fault Refusal := .next (gennowWith Config.keyMax s)

end Sys2Proof.Machine
end

