-- ==== Sys2Proof/Machine/Dispatch.lean ====
section
/-! DEFINITION. The dispatch of a decoded command to its meaning: one arm per command of 30_encoding.md R60. -/

namespace Sys2Proof.Machine

def exec (i : Instr) (s : State) : Host.Outcome State Fault Refusal :=
  match i with
  | .sign => Sys2Proof.Machine.execSign s
  | .genat => Sys2Proof.Machine.execGenat s
  | .gennow => Sys2Proof.Machine.execGennow s
  | .clear => Sys2Proof.Machine.execClear s

end Sys2Proof.Machine
end

