-- ==== Sys2Proof/Machine/Port.lean ====
section
/-! DEFINITION. The host port: the five transactions of 20_memory.md R42, the refused ones of R49, and the reset input of
70_reset_and_hazards.md R151. Each is one atomic step (R53). -/

namespace Sys2Proof.Machine

/-- `CMD c` (30_encoding.md R59, 45_commands.md R116): decode the byte and run the command. -/
def command (c : Byte) (s : State) : Host.Outcome State Fault Refusal :=
  match decode c with
  | .instr i => exec i s
  | .illegal => .next (illegalCommand s)

/-- `WR n, v` (R44): a write to CMD is a command (R42), a write to an operand register stores; an unmapped number, a
read-only location and a value that does not fit have no step (R49). -/
def hostWrite (n : Byte) (v : Nat) (s : State) : Host.Outcome State Fault Refusal :=
  match locate n with
  | none => .fault (.unmappedLocation n)
  | some l =>
    if l.hostWrites = false then .refused (.readOnlyLocation n)
    else if 2 ^ l.width ≤ v then .refused (.valueTooWide n v)
    else if l = .cmd then command (BitVec.ofNat 8 v) s
    else .next (writeOperand l v s)

/-- `RD n` (R45, R48): the value of the location; no state of the core changes. -/
def hostRead (n : Byte) (s : State) : Host.Outcome State Fault Refusal :=
  match locate n with
  | none => .fault (.unmappedLocation n)
  | some l => .next (giveToHost (readLoc s l) s)

/-- `WRK i, b` (R46) for a key memory of `keyMax` bytes: one key byte; KEYLEN is not touched. -/
def hostWriteKey (keyMax i b : Nat) (s : State) : Host.Outcome State Fault Refusal :=
  if keyMax ≤ i then .fault (.keyIndexOutOfRange i)
  else if 2 ^ 8 ≤ b then .refused (.keyByteTooWide b)
  else .next { s with key := Memory.write s.key i (BitVec.ofNat 8 b) }

/-- `RDK i` (R47) for a key memory of `keyMax` bytes: returns 0x00 whatever the byte holds. -/
def hostReadKey (keyMax i : Nat) (s : State) : Host.Outcome State Fault Refusal :=
  if keyMax ≤ i then .fault (.keyIndexOutOfRange i) else .next (giveToHost (.byte 0x00) s)

/-- What one host event does to the core (R42, R151). -/
def perform (ev : HostEvent) (s : State) : Host.Outcome State Fault Refusal :=
  match ev with
  | .wr n v => hostWrite n v s
  | .rd n => hostRead n s
  | .wrk i b => hostWriteKey Config.keyMax i b s
  | .rdk i => hostReadKey Config.keyMax i s
  | .cmd c => command c s
  | .rst => .next (resetCore s)

/-- The next host event is taken and performed (20_memory.md R56: in the order issued). With none left the run has ended
(70_reset_and_hazards.md R163) and the core, which "never acts unless a command is written" (10_state.md R13), stays as it
is. DEDUCED (log entry 2), safe. -/
def takeEvent (s : State) : Host.Outcome State Fault Refusal :=
  match s.env.pending with
  | [] => .next s
  | ev :: rest => perform ev (withPending rest s)

/-- The host's next event replaced by the command whose byte is the word `w`. A command "is always one byte" (30_encoding.md
R64): a word of another length, or a number that does not fit a byte, is none, and nothing is placed. -/
def placeCommand (nbits w : Nat) (s : State) : State :=
  if nbits = 8 ∧ w < 2 ^ 8 then withPending (.cmd (BitVec.ofNat 8 w) :: s.env.pending.tail) s else s

end Sys2Proof.Machine
end

