-- ==== Sys2Proof/Machine/Step.lean ====
section
/-! DEFINITION. One step of the machine: the next host event (70_reset_and_hazards.md R163: "in order, each as one step"). -/

namespace Sys2Proof.Machine

/-- One step (R163): the oldest pending host event, whole. -/
def step (s : State) : Host.Outcome State Fault Refusal := takeEvent s

/-- The state whose next step runs the command given as a table word: the core fetches nothing (10_state.md R16), the host
issues commands, so the command becomes the host's next event (log entry 1). -/
def State.withFetchWord (s : State) (nbits w : Nat) : State := placeCommand nbits w s

end Sys2Proof.Machine
end

