-- ==== Sys2Proof/Machine/HostNotation.lean ====
section
/-! DEFINITION. The host's notation (30_encoding.md R65 to R68): pseudo-instructions, tuples, and the host programs of TOTEM's
three contracts. These are lists of host events; none of them adds a behaviour of the core. -/

namespace Sys2Proof.Machine

/-- `LDKEYX <hex bytes>` (R66): the key bytes from index 0, then KEYLEN. -/
def ldkeyx (bytes : List Byte) : List HostEvent :=
  bytes.mapIdx (fun i b => HostEvent.wrk i b.toNat) ++ [.wr Loc.keyLen.number bytes.length]

/-- `LDKEY "<text>"` (R66): the text's ASCII bytes. -/
def ldkey (text : String) : List HostEvent := ldkeyx (text.toList.map fun c => BitVec.ofNat 8 c.toNat)

/-- `LDKEYREP <byte>, <n>` (R66). -/
def ldkeyrep (b : Byte) (n : Nat) : List HostEvent := ldkeyx (List.replicate n b)

/-- `RD <reg>` by name (R65). -/
def rdLoc (l : Loc) : HostEvent := .rd l.number

/-- `WR <reg>, <value>` by name (R65). -/
def wrLoc (l : Loc) (v : Nat) : HostEvent := .wr l.number v

/-- `CMD <mnemonic>` (R65). -/
def cmdOf (i : Instr) : HostEvent := .cmd (encode i)

/-- `RDMSG` (R66). -/
def rdmsg : List HostEvent := (List.finRange 8).map fun i => rdLoc (.msg i)

/-- `RDDIGEST` (R66). -/
def rddigest : List HostEvent := (List.finRange 20).map fun i => rdLoc (.digest i)

/-- `RDCODE` (R66): CODELEN, then all 19 characters. -/
def rdcode : List HostEvent := rdLoc .codeLen :: (List.finRange 19).map fun i => rdLoc (.codeStr i)

/-- The two address spaces (20_memory.md R41). -/
inductive Space where
  | r
  | k
  deriving DecidableEq, Repr

/-- The tuple `(kind, space, number, value)` of a transaction (R67); a read has no value. -/
structure HostTuple where
  write : Bool
  space : Space
  number : Nat
  value : Option Nat
  deriving DecidableEq, Repr

/-- The tuple of a host event (R67); the reset input is no transaction and has none. -/
def hostTuple : HostEvent → Option HostTuple
  | .wr n v => some ⟨true, .r, n.toNat, some v⟩
  | .rd n => some ⟨false, .r, n.toNat, none⟩
  | .wrk i b => some ⟨true, .k, i, some b⟩
  | .rdk i => some ⟨false, .k, i, none⟩
  | .cmd c => some ⟨true, .r, 0x00, some c.toNat⟩
  | .rst => none

/-- `sign(secret, timestep, time)` as a host program (R68). -/
def signProgram (key : List Byte) (timestep time : Word64) : List HostEvent :=
  ldkeyx key ++ [wrLoc .timestep timestep.toNat, wrLoc .time time.toNat, cmdOf .sign, rdLoc .status] ++ rddigest

/-- `generateTokenAtTime(secret, digits, timestep, time)` as a host program (R68). -/
def tokenAtTimeProgram (key : List Byte) (digits : Byte) (timestep time : Word64) : List HostEvent :=
  ldkeyx key ++ [wrLoc .digits digits.toNat, wrLoc .timestep timestep.toNat, wrLoc .time time.toNat, cmdOf .genat,
    rdLoc .status] ++ rdcode

/-- `generateToken(secret, digits, timestep)` as a host program (R68). -/
def tokenProgram (key : List Byte) (digits : Byte) (timestep : Word64) : List HostEvent :=
  ldkeyx key ++ [wrLoc .digits digits.toNat, wrLoc .timestep timestep.toNat, cmdOf .gennow, rdLoc .status] ++ rdcode

/-- The code as the host takes it (44_digit_reducer.md R112): `CODESTR[0 .. CODELEN-1]`. -/
def codeText (s : State) : List Byte := s.codeStr.toList.take s.codeLen.toNat

end Sys2Proof.Machine
end

