-- ==== Sys2Proof/WellFormed.lean ====
section
/-! DEFINITION. Well-formed commands and well-formed host transactions (20_memory.md R49). -/

namespace Sys2Proof

/-- A command has no operand field (30_encoding.md R61), so every command is well formed. -/
def Instr.wellFormed : Instr → Bool
  | .sign => true
  | .genat => true
  | .gennow => true
  | .clear => true

/-- The transactions 20_memory.md R49 does NOT refuse, for a key memory of `keyMax` bytes: mapped locations, writes only where
the host may write, values that fit, key indices below `keyMax`, key bytes of 8 bits. The reset input is always possible. -/
def HostEvent.wellFormed (keyMax : Nat) : HostEvent → Bool
  | .wr n v =>
    match locate n with
    | none => false
    | some l => l.hostWrites && decide (v < 2 ^ l.width)
  | .rd n => (locate n).isSome
  | .wrk i b => decide (i < keyMax) && decide (b < 2 ^ 8)
  | .rdk i => decide (i < keyMax)
  | .cmd _ => true
  | .rst => true

end Sys2Proof
end

