-- ==== Sys2Proof/Safety.lean ====
section
/-! DEFINITION. What the claims speak of: the states a fault and a good command leave, the invariant of every reachable
state, what may be seen of the key, and good runs. -/

namespace Sys2Proof.Machine

/-- The state fault entry leaves (60_exceptions.md R140), field by field. -/
def faulted (e : Err) (s : State) : State :=
  { s with
    err := e, vSign := false, vCode := false, counter := 0, offset := 0, code31 := 0, codeVal := 0, codeLen := 0
    msg := Vector.replicate 8 0, digest := Vector.replicate 20 0, codeStr := Vector.replicate 19 0
    hmac := .zero, clockLatch := noSample }

/-- The counter of the operands a state holds (40_counter_encoder.md R72), as a quotient of 64-bit numbers. -/
def counterNow (s : State) : Word64 := s.time / s.timestep

/-- The digest of the operands a state holds (42_hmac_sign.md R98). -/
def digestNow (s : State) : Vector Byte 20 := hmacSha1 (secret s) (beBytes 8 (counterNow s).toNat).toList

/-- The state a good SIGN leaves (42_hmac_sign.md R98), field by field. -/
def signedState (s : State) : State :=
  { s with
    vSign := true, vCode := false
    counter := counterNow s
    msg := beBytes 8 (counterNow s).toNat
    digest := digestNow s
    offset := 0, code31 := 0, codeVal := 0, codeLen := 0, codeStr := Vector.replicate 19 0
    hmac := .zero, clockLatch := noSample }

/-- CODEVAL for the operands a state holds (45_commands.md R120), as a number. -/
def codeNow (s : State) : Nat := (dtCode31 (digestNow s)).toNat % 10 ^ s.digits.toNat

/-- The state a good GENAT leaves (45_commands.md R120), field by field. -/
def generatedState (s : State) : State :=
  { s with
    vSign := true, vCode := true
    counter := counterNow s
    msg := beBytes 8 (counterNow s).toNat
    digest := digestNow s
    offset := (digestNow s)[19] &&& 0x0F
    code31 := dtCode31 (digestNow s)
    codeVal := BitVec.ofNat 64 (codeNow s)
    codeLen := s.digits
    codeStr := Vector.ofFn fun i =>
      if i.val < s.digits.toNat then BitVec.ofNat 8 (0x30 + codeNow s / 10 ^ (s.digits.toNat - 1 - i.val) % 10) else 0x00
    hmac := .zero, clockLatch := noSample }

/-- One clock sample taken from the port (60_exceptions.md R145); nothing of the core is written. -/
def sampled (s : State) : State :=
  { s with env := { s.env with clockSamples := s.env.clockSamples.tail, clockDraws := s.env.clockDraws + 1 } }

/-- Every register of the sign group is zero. -/
def noSignResults (s : State) : Prop := s.counter = 0 ∧ s.msg = Vector.replicate 8 0 ∧ s.digest = Vector.replicate 20 0

/-- Every register of the code group is zero. -/
def noCodeResults (s : State) : Prop :=
  s.offset = 0 ∧ s.code31 = 0 ∧ s.codeVal = 0 ∧ s.codeLen = 0 ∧ s.codeStr = Vector.replicate 19 0

/-- The sign group holds results of some accepted operands (10_state.md R25). -/
def signResultsHold (s : State) : Prop :=
  ∃ ops : SignerOperands, ops.key.length ≤ Config.keyMax ∧ s.counter = counterOf ops.time ops.timestep ops.timestep_ne ∧
    s.msg = be8 s.counter ∧ s.digest = hmacSha1 ops.key s.msg.toList

/-- The code group holds what DIGEST and CODELEN give (10_state.md R25). -/
def codeResultsHold (s : State) : Prop :=
  ∃ range : 1 ≤ s.codeLen.toNat ∧ s.codeLen.toNat ≤ 19,
    s.offset = (dtOffset s.digest).setWidth 8 ∧ s.code31 = dtCode31 s.digest ∧
    s.codeVal = reduceCode s.code31 s.codeLen.toNat range ∧ s.codeStr = codeString s.codeVal s.codeLen.toNat

/-- The invariant of every reachable state. -/
structure CoreInv (s : State) : Prop where
  /-- `V_CODE = 1` implies `V_SIGN = 1` (10_state.md R23). -/
  code_sign : s.vCode = true → s.vSign = true
  /-- `ERR != 0` implies both flags 0 (R23). -/
  fault_flags : s.err ≠ .noFault → s.vSign = false ∧ s.vCode = false
  /-- V_SIGN says whether the sign group holds results or zeros (R25). -/
  sign_results : if s.vSign then signResultsHold s else noSignResults s
  /-- V_CODE says whether the code group holds results or zeros (R25). -/
  code_results : if s.vCode then codeResultsHold s else noCodeResults s
  /-- Key memory is in its canonical form. -/
  key_wf : Memory.wf s.key
  /-- No key byte is stored outside space K (20_memory.md R41). -/
  key_bound : ∀ c ∈ s.key, c.1 < Config.keyMax
  /-- Hidden state is zero between transactions (45_commands.md R118). -/
  hidden : s.hmac = .zero ∧ s.clockLatch = noSample

/-- The locations whose value may depend on the key bytes (10_state.md R31). -/
def Loc.keyDependent : Loc → Bool
  | .digest _ | .offset | .code31 | .codeVal | .codeStr _ => true
  | .cmd | .status | .keyLen | .digits | .timestep | .time | .counter | .codeLen | .msg _ => false

/-- A read of one of those locations. -/
def readsKeyResult : HostEvent → Bool
  | .rd n => (locate n).any Loc.keyDependent
  | .wr _ _ | .wrk _ _ | .rdk _ | .cmd _ | .rst => false

/-- A state with everything that may depend on the key bytes blanked (10_state.md R31). -/
def withoutKey (s : State) : State :=
  { s with
    key := [], digest := Vector.replicate 20 0, offset := 0, code31 := 0, codeVal := 0
    codeStr := Vector.replicate 19 0 }

/-- Two outcomes are alike in everything but what may depend on the key bytes. -/
def sameButForKey : Host.Outcome State Fault Refusal → Host.Outcome State Fault Refusal → Prop
  | .next s, .next t => withoutKey s = withoutKey t
  | .fault r, .fault q => r = q
  | .refused r, .refused q => r = q
  | _, _ => False

/-- The result registers and STATUS of two states agree (45_commands.md R123). -/
def sameResults (s t : State) : Prop :=
  s.err = t.err ∧ s.vSign = t.vSign ∧ s.vCode = t.vCode ∧ s.counter = t.counter ∧ s.offset = t.offset ∧
    s.code31 = t.code31 ∧ s.codeVal = t.codeVal ∧ s.codeLen = t.codeLen ∧ s.msg = t.msg ∧ s.digest = t.digest ∧
    s.codeStr = t.codeStr

/-- A host program run to its end from a start state (70_reset_and_hazards.md R163). -/
def runEvents (evs : List HostEvent) (s : State) : Host.Outcome State Fault Refusal :=
  core.run evs.length (withPending evs s)

/-- A run is good for a claim about results (R163): no refused transaction, and `ERR = 0` at its end. -/
def goodRun (evs : List HostEvent) (s : State) : Prop :=
  (∀ ev ∈ evs, ev.wellFormed Config.keyMax = true) ∧ ∃ t, runEvents evs s = .next t ∧ t.err = .noFault

end Sys2Proof.Machine
end

