-- ==== Sys2Proof/Certificates/Slice0/Obligations.lean ====
section
/-! DEFINITION. The statements for the provers, from the numbered rules of spec/. A docstring that names no rule rests on an
inference the spec marks as its own, or on a choice of the model's, and says which. -/

open Sys2Proof Sys2Proof.Machine

/-! ### Encoding -/

/-- 30_encoding.md R62: decoding is total; an ILLEGAL byte raises ERR_CMD while `ERR = 0` and is ignored otherwise. `WR 0x00, c`
is `CMD c` (20_memory.md section 1), in every state. -/
def Obligations.CommandBytesDecodeTotally : Prop :=
  decode 0x01 = .instr .sign ∧ decode 0x02 = .instr .genat ∧ decode 0x03 = .instr .gennow ∧ decode 0x04 = .instr .clear ∧
  (∀ c : Byte, c = 0x00 ∨ 0x05 ≤ c.toNat → decode c = .illegal) ∧
  (∀ (c : Byte) (s : State), c = 0x00 ∨ 0x05 ≤ c.toNat →
    perform (.cmd c) s = .next (if s.err = .noFault then faulted .cmd s else s) ∧
    perform (.wr 0x00 c.toNat) s = .next (if s.err = .noFault then faulted .cmd s else s)) ∧
  (∀ (c : Byte) (s : State), perform (.wr 0x00 c.toNat) s = perform (.cmd c) s)

/-- 30_encoding.md section 2: a byte decodes to a command exactly when it is that command's opcode; a command is always one byte
(R64), so a table word of any other length, or above 255, is none. -/
def Obligations.EncodeDecodeAgree : Prop :=
  (∀ (i : Instr) (c : Byte), decode c = .instr i ↔ encode i = c) ∧
  (∀ (nbits w : Nat) (i : Instr), decodeTableWord nbits w = some i ↔ nbits = 8 ∧ w = (encode i).toNat)

/-- 30_encoding.md section 2: the opcodes written out bit by bit, as table words. -/
def Obligations.HandWrittenOpcodesDecode : Prop :=
  decodeTableWord 8 0b00000001 = some .sign ∧ decodeTableWord 8 0b00000010 = some .genat ∧
  decodeTableWord 8 0b00000011 = some .gennow ∧ decodeTableWord 8 0b00000100 = some .clear ∧
  decodeTableWord 8 0b00000000 = none ∧ decodeTableWord 8 0b00000101 = none ∧ decodeTableWord 8 0b10000001 = none ∧
  decodeTableWord 3 0b100 = none ∧ decodeTableWord 16 0b0000000000000001 = none ∧ decodeTableWord 8 0b100000001 = none

/-- 10_state.md section 2 and 20_memory.md section 1: a number addresses a location exactly when it is that location's
number in the register table, whose numbers are written out, and 58 of the 256 numbers are mapped. -/
def Obligations.LocationNumbersAgree : Prop :=
  (Loc.cmd.number = 0x00 ∧ Loc.status.number = 0x01 ∧ Loc.keyLen.number = 0x02 ∧ Loc.digits.number = 0x03 ∧
    Loc.timestep.number = 0x04 ∧ Loc.time.number = 0x05 ∧ Loc.counter.number = 0x08 ∧ Loc.offset.number = 0x09 ∧
    Loc.code31.number = 0x0A ∧ Loc.codeVal.number = 0x0B ∧ Loc.codeLen.number = 0x0C ∧
    (∀ i : Fin 8, (Loc.msg i).number.toNat = 0x10 + i.val) ∧ (∀ i : Fin 20, (Loc.digest i).number.toNat = 0x20 + i.val) ∧
    ∀ i : Fin 19, (Loc.codeStr i).number.toNat = 0x40 + i.val) ∧
  (∀ (n : Byte) (l : Loc), locate n = some l ↔ l.number = n) ∧
  ((List.range 256).filter fun k => (locate (BitVec.ofNat 8 k)).isSome).length = 58

/-! ### The step -/

/-- 30_encoding.md section 1: `CMD c` is the write of `c` to location 0x00; the step runs the decoded command, and what the
step adds around exec is only that the host's event is taken from its list (the model's choice, log entry 1). -/
def Obligations.StepRunsTheDecodedCommand : Prop :=
  ∀ (s : State) (c : Byte) (i : Instr) (rest : List HostEvent), decode c = .instr i →
    (s.env.pending = .cmd c :: rest → step s = exec i (withPending rest s)) ∧
    (s.env.pending = .wr 0x00 c.toNat :: rest → step s = exec i (withPending rest s))

/-- With nothing pending nothing changes: the model's reading (log entry 2) of "The core never acts unless a command is
written" (10_state.md section 1). -/
def Obligations.StepWithNothingPendingIsIdle : Prop := ∀ s : State, s.env.pending = [] → step s = .next s

/-- 70_reset_and_hazards.md section 5 ("[derived: from 45_commands.md rule R116]"): a step whose pending event is well formed
always reaches a next state, and one whose event is not has no next state (20_memory.md section 2; which stop is the
model's choice, log entry 6). -/
def Obligations.WellFormedEventsAlwaysStep : Prop :=
  ∀ (s : State) (ev : HostEvent) (rest : List HostEvent), s.env.pending = ev :: rest →
    (ev.wellFormed Config.keyMax = true → ∃ t, step s = .next t) ∧
    (ev.wellFormed Config.keyMax = false → ∀ t, step s ≠ .next t)

/-- A step takes exactly its own event from the host's list and no other: the model's choice (log entry 1 for the list and for
taking one event a step, log entry 9 for the reset input and CLEAR, which leave it alone), from 10_state.md section 1, where
the host stands outside the core. -/
def Obligations.StepTakesOneEvent : Prop :=
  ∀ (s t : State) (ev : HostEvent) (rest : List HostEvent), s.env.pending = ev :: rest → step s = .next t →
    t.env.pending = rest

/-! ### Reset and STATUS -/

/-- 70_reset_and_hazards.md R152: the reset state, complete, reached from any state by the reset input (R151). Of the model's
own fields, which stand outside the core, it says nothing. -/
def Obligations.ResetInputGivesTheResetState : Prop :=
  ∀ s : State, ∃ t, perform .rst s = .next t ∧ statusWord t = 0x00 ∧ t.err = .noFault ∧ t.vSign = false ∧ t.vCode = false ∧
    t.keyLen = 0 ∧ t.digits = 0 ∧ t.timestep = 0 ∧ t.time = 0 ∧
    t.counter = 0 ∧ t.offset = 0 ∧ t.code31 = 0 ∧ t.codeVal = 0 ∧ t.codeLen = 0 ∧
    (∀ i : Fin 8, t.msg[i] = 0x00) ∧ (∀ i : Fin 20, t.digest[i] = 0x00) ∧ (∀ i : Fin 19, t.codeStr[i] = 0x00) ∧
    (∀ i, Memory.read t.key i = 0x00) ∧ t.hmac = .zero ∧ t.clockLatch = ⟨false, 0⟩ ∧
    readLoc t .cmd = .byte 0x00 ∧ t = { State.reset with env := t.env }

/-- 10_state.md section 4: the fields of STATUS at their bits. -/
def Obligations.StatusFieldsAtTheirBits : Prop :=
  ∀ s : State, (statusWord s).extractLsb 3 0 = errCode s.err ∧ (statusWord s).getLsbD 4 = s.vSign ∧
    (statusWord s).getLsbD 5 = s.vCode ∧ (statusWord s).getLsbD 6 = false ∧ (statusWord s).getLsbD 7 = false

/-- 10_state.md section 4: "The legal values of STATUS are exactly" those eight; with the reserved bits of OFFSET and CODE31
(section 5), in every state that meets the invariant. -/
def Obligations.StatusValuesAreLegal : Prop :=
  ∀ s : State, CoreInv s → statusWord s ∈ [0x00#8, 0x10#8, 0x30#8, 0x01#8, 0x02#8, 0x03#8, 0x04#8, 0x05#8] ∧
    s.offset.toNat < 16 ∧ s.code31.toNat < 2 ^ 31

/-! ### SIGN -/

/-- 42_hmac_sign.md R98: SIGN in every case. -/
def Obligations.SignInEveryCase : Prop :=
  ∀ s : State, exec .sign s = .next (
    if s.err ≠ .noFault then s
    else if s.timestep = 0 then faulted .timestep s
    else if Config.keyMax < s.keyLen.toNat then faulted .keyLen s
    else signedState s)

/-- 42_hmac_sign.md section 2: SIGN completes on every accepted set of operands, whatever DIGITS holds. -/
def Obligations.SignCompletes : Prop :=
  ∀ s : State, s.err = .noFault → s.timestep ≠ 0 → s.keyLen.toNat ≤ Config.keyMax →
    ∃ t, exec .sign s = .next t ∧ statusWord t = 0x10 ∧
      t.counter.toNat = s.time.toNat / s.timestep.toNat ∧ beVal t.msg.toList = t.counter.toNat ∧
      t.digest = hmacSha1 (secret s) t.msg.toList ∧ noCodeResults t

/-! ### GENAT and GENNOW -/

/-- 45_commands.md R120: GENAT in every case. -/
def Obligations.GenatInEveryCase : Prop :=
  ∀ s : State, exec .genat s = .next (
    if s.err ≠ .noFault then s
    else if s.timestep = 0 then faulted .timestep s
    else if Config.keyMax < s.keyLen.toNat then faulted .keyLen s
    else if s.digits = 0 ∨ 19 < s.digits.toNat then faulted .digits s
    else generatedState s)

/-- 45_commands.md section 2: GENAT completes on every accepted set of operands. -/
def Obligations.GenatCompletes : Prop :=
  ∀ s : State, s.err = .noFault → s.timestep ≠ 0 → s.keyLen.toNat ≤ Config.keyMax → 1 ≤ s.digits.toNat → s.digits.toNat ≤ 19 →
    ∃ t, exec .genat s = .next t ∧ statusWord t = 0x30 ∧
      t.counter.toNat = s.time.toNat / s.timestep.toNat ∧ beVal t.msg.toList = t.counter.toNat ∧
      t.digest = hmacSha1 (secret s) t.msg.toList ∧
      t.offset.toNat = t.digest[19].toNat % 16 ∧
      t.code31.toNat = beVal ((t.digest.toList.drop t.offset.toNat).take 4) % 2 ^ 31 ∧
      t.codeVal.toNat = t.code31.toNat % 10 ^ s.digits.toNat ∧ t.codeLen = s.digits

/-- 42_hmac_sign.md section 2 and 45_commands.md section 2, the frame of SIGN and GENAT: no operand register, no byte of key
memory, no clock sample and nothing of the host's is changed. -/
def Obligations.SignAndGenatFrame : Prop :=
  ∀ (i : Instr) (s t : State), i = .sign ∨ i = .genat → exec i s = .next t →
    t.keyLen = s.keyLen ∧ t.digits = s.digits ∧ t.timestep = s.timestep ∧ t.time = s.time ∧
    (∀ a, Memory.read t.key a = Memory.read s.key a) ∧ t.key = s.key ∧ t.env = s.env

/-- 45_commands.md R121: GENNOW in every case; the clock is sampled exactly once, after the three configuration checks, and
TIME takes the sample's seconds only when the sample is valid. -/
def Obligations.GennowInEveryCase : Prop :=
  ∀ s : State, exec .gennow s = .next (
    if s.err ≠ .noFault then s
    else if s.timestep = 0 then faulted .timestep s
    else if Config.keyMax < s.keyLen.toNat then faulted .keyLen s
    else if s.digits = 0 ∨ 19 < s.digits.toNat then faulted .digits s
    else if (nextSample s).valid = false then faulted .clock (sampled s)
    else generatedState { sampled s with time := (nextSample s).sec })

/-- 45_commands.md section 3: GENNOW completes on every accepted set of operands and every valid sample. -/
def Obligations.GennowCompletes : Prop :=
  ∀ s : State, s.err = .noFault → s.timestep ≠ 0 → s.keyLen.toNat ≤ Config.keyMax → 1 ≤ s.digits.toNat → s.digits.toNat ≤ 19 →
    (nextSample s).valid = true →
    ∃ t, exec .gennow s = .next t ∧ statusWord t = 0x30 ∧ t.time = (nextSample s).sec ∧
      t.counter.toNat = t.time.toNat / s.timestep.toNat ∧ beVal t.msg.toList = t.counter.toNat ∧
      t.digest = hmacSha1 (secret s) t.msg.toList ∧
      t.codeVal.toNat = t.code31.toNat % 10 ^ s.digits.toNat ∧ t.codeLen = s.digits

/-- 45_commands.md section 3: GENNOW writes no operand register but TIME and no key byte, and uses up at most one clock
sample. -/
def Obligations.GennowFrame : Prop :=
  ∀ s t : State, exec .gennow s = .next t →
    t.keyLen = s.keyLen ∧ t.digits = s.digits ∧ t.timestep = s.timestep ∧
    (t.time = s.time ∨ t.time = (nextSample s).sec ∧ (nextSample s).valid = true) ∧
    (∀ i, Memory.read t.key i = Memory.read s.key i) ∧ t.key = s.key ∧
    t.env.pending = s.env.pending ∧ t.env.returned = s.env.returned ∧ (t.env = s.env ∨ t.env = (sampled s).env)

/-- 45_commands.md section 3 ("Equivalence [derived: from rule R120]"): a good GENNOW whose sample is `(1, x)` leaves the
state that `WR TIME, x` and then GENAT would have left; only the clock port has moved on. -/
def Obligations.GennowEqualsTimeWriteThenGenat : Prop :=
  ∀ s t : State, exec .gennow s = .next t → s.err = .noFault → t.err = .noFault →
    ∃ a, perform (.wr 0x05 (nextSample s).sec.toNat) s = .next a ∧ exec .genat a = .next { t with env := s.env }

/-- 45_commands.md section 2: after a good GENAT the sign group holds what a SIGN with the same operands leaves. -/
def Obligations.GenatAndSignAgreeOnTheDigest : Prop :=
  ∀ s a b : State, exec .sign s = .next a → exec .genat s = .next b → s.err = .noFault → b.err = .noFault →
    a.err = .noFault ∧ b.counter = a.counter ∧ b.msg = a.msg ∧ b.digest = a.digest

/-- 45_commands.md section 5 and 10_state.md section 9 ("[derived: from 45_commands.md rules R116 to R121]"): SIGN and GENAT are
functions of their operands, and GENNOW of its operands and the clock sample: its old TIME has no influence. -/
def Obligations.CommandsAreDeterminedByTheirOperands : Prop :=
  ∀ s t : State, s.err = .noFault → t.err = .noFault → s.keyLen = t.keyLen → s.timestep = t.timestep →
    (∀ i, i < s.keyLen.toNat → Memory.read s.key i = Memory.read t.key i) →
    (s.time = t.time → ∀ a b, exec .sign s = .next a → exec .sign t = .next b → sameResults a b) ∧
    (s.time = t.time → s.digits = t.digits → ∀ a b, exec .genat s = .next a → exec .genat t = .next b → sameResults a b) ∧
    (nextSample s = nextSample t → s.digits = t.digits → ∀ a b, exec .gennow s = .next a → exec .gennow t = .next b →
      sameResults a b ∧ (a.err = .noFault → a.time = b.time))

/-- 40_counter_encoder.md, window stability, an inference of the spec ("[derived: from rules R72 and R74]"): two times of one
window give the same digest and the same code. -/
def Obligations.OneWindowGivesOneCode : Prop :=
  ∀ (s : State) (x y : Word64), s.err = .noFault → s.timestep ≠ 0 → x.toNat / s.timestep.toNat = y.toNat / s.timestep.toNat →
    (∀ a b, exec .sign { s with time := x } = .next a → exec .sign { s with time := y } = .next b → sameResults a b) ∧
    (∀ a b, exec .genat { s with time := x } = .next a → exec .genat { s with time := y } = .next b → sameResults a b)

/-- 20_memory.md section 5 ("[derived: from 10_state.md rule R32]"): SIGN and GENAT issued twice leave the same state twice. -/
def Obligations.SignAndGenatAreIdempotent : Prop :=
  ∀ s t : State, (exec .sign s = .next t → exec .sign t = .next t) ∧ (exec .genat s = .next t → exec .genat t = .next t)

/-! ### CLEAR -/

/-- 45_commands.md R122: CLEAR completes in every state, faulted or not, and the whole state then equals the reset state. Of
the model's own fields, which stand outside the core, it says nothing. -/
def Obligations.ClearGivesTheResetState : Prop :=
  ∀ s : State, ∃ t, exec .clear s = .next t ∧ statusWord t = 0x00 ∧ (∀ i, Memory.read t.key i = 0x00) ∧
    t = { State.reset with env := t.env }

/-- CLEAR and the reset input leave the host and the clock source as they were: the model's choice (log entry 9), from
10_state.md section 1, where both stand outside the core. -/
def Obligations.ClearAndResetLeaveTheOutsideAlone : Prop :=
  ∀ s t : State, exec .clear s = .next t ∨ perform .rst s = .next t → t.env = s.env

/-! ### Faults -/

/-- 60_exceptions.md R140: fault entry clears the results, sets ERR so that `STATUS = 0x00 + code`, scrubs, and touches
nothing else. The codes of the five causes are those of R130. -/
def Obligations.FaultEntryDoesThisAndNoMore : Prop :=
  (∀ (e : Err) (s : State), raiseFault e s = faulted e s ∧ statusWord (faulted e s) = (errCode e).setWidth 8) ∧
  (∀ s : State, statusWord (faulted .cmd s) = 0x01 ∧ statusWord (faulted .timestep s) = 0x02 ∧
    statusWord (faulted .keyLen s) = 0x03 ∧ statusWord (faulted .digits s) = 0x04 ∧ statusWord (faulted .clock s) = 0x05)

/-- 60_exceptions.md section 1, ERR_TIMESTEP. -/
def Obligations.ZeroTimestepFaults : Prop :=
  ∀ (i : Instr) (s : State), i ≠ .clear → s.err = .noFault → s.timestep = 0 →
    ∃ t, exec i s = .next t ∧ t = faulted .timestep s ∧ statusWord t = 0x02

/-- 60_exceptions.md section 1, ERR_KEYLEN, for a key memory of any capacity `K`; exec is the case of this instance's. -/
def Obligations.KeyLongerThanKeyMemoryFaults : Prop :=
  (∀ (K : Nat) (s : State), s.err = .noFault → s.timestep ≠ 0 → K < s.keyLen.toNat →
    signWith K s = faulted .keyLen s ∧ genatWith K s = faulted .keyLen s ∧ gennowWith K s = faulted .keyLen s) ∧
  (∀ s : State, exec .sign s = .next (signWith Config.keyMax s) ∧ exec .genat s = .next (genatWith Config.keyMax s) ∧
    exec .gennow s = .next (gennowWith Config.keyMax s))

/-- 60_exceptions.md section 1, ERR_DIGITS: GENAT and GENNOW, not SIGN; the clock is not sampled. -/
def Obligations.DigitsOutOfRangeFaults : Prop :=
  ∀ s : State, s.err = .noFault → s.timestep ≠ 0 → s.keyLen.toNat ≤ Config.keyMax → s.digits = 0 ∨ 20 ≤ s.digits.toNat →
    exec .genat s = .next (faulted .digits s) ∧ exec .gennow s = .next (faulted .digits s) ∧
    ∃ t, exec .sign s = .next t ∧ t.err = .noFault

/-- 60_exceptions.md section 1, ERR_CLOCK: TIME stays as it was. -/
def Obligations.InvalidClockSampleFaults : Prop :=
  ∀ s : State, s.err = .noFault → s.timestep ≠ 0 → s.keyLen.toNat ≤ Config.keyMax → 1 ≤ s.digits.toNat → s.digits.toNat ≤ 19 →
    (nextSample s).valid = false →
    ∃ t, exec .gennow s = .next t ∧ statusWord t = 0x05 ∧ t.time = s.time ∧ t = faulted .clock (sampled s)

/-- 60_exceptions.md R139: the one fault reported is the first in the order TIMESTEP, KEYLEN, DIGITS, CLOCK; ERR_CMD excludes
the others, since an illegal byte reads no operand. A GENNOW that faults on a configuration check samples no clock. -/
def Obligations.FirstFaultInPriorityIsReported : Prop :=
  (∀ s t : State, s.err = .noFault → exec .gennow s = .next t →
    t.err = (if s.timestep = 0 then .timestep else if Config.keyMax < s.keyLen.toNat then .keyLen
      else if s.digits = 0 ∨ 19 < s.digits.toNat then .digits else if (nextSample s).valid = false then .clock else .noFault) ∧
    (t.err ≠ .noFault → t.err ≠ .clock → t.env = s.env)) ∧
  (∀ s t : State, s.err = .noFault → exec .genat s = .next t →
    t.err = (if s.timestep = 0 then .timestep else if Config.keyMax < s.keyLen.toNat then .keyLen
      else if s.digits = 0 ∨ 19 < s.digits.toNat then .digits else .noFault)) ∧
  (∀ s t : State, s.err = .noFault → exec .sign s = .next t →
    t.err = (if s.timestep = 0 then .timestep else if Config.keyMax < s.keyLen.toNat then .keyLen else .noFault)) ∧
  (∀ (c : Byte) (s t : State), s.err = .noFault → decode c = .illegal → perform (.cmd c) s = .next t → t.err = .cmd)

/-- 60_exceptions.md section 4, the faulted state: every command but CLEAR, legal or illegal, changes nothing at all, in either
form of the transaction (`CMD c` and `WR 0x00, c`). -/
def Obligations.FaultedCoreIgnoresCommands : Prop :=
  ∀ (c : Byte) (s : State), s.err ≠ .noFault → c ≠ 0x04 →
    perform (.cmd c) s = .next s ∧ perform (.wr 0x00 c.toNat) s = .next s

/-- 60_exceptions.md section 4, return from a fault: while a fault is latched no step changes its code, except a CLEAR and the
reset input, which lead to the reset state. -/
def Obligations.FaultsAreStickyAndDoNotNest : Prop :=
  ∀ s t : State, s.err ≠ .noFault → step s = .next t →
    t.err = s.err ∨
    ((∃ rest, s.env.pending = .cmd 0x04 :: rest ∨ s.env.pending = .wr 0x00 4 :: rest ∨ s.env.pending = .rst :: rest) ∧
      t = { State.reset with env := t.env })

/-- 60_exceptions.md section 1 ("[derived: from 45_commands.md rules R116, R119]"): faults are precise: a command that
faults has no effect but fault entry. -/
def Obligations.FaultsArePrecise : Prop :=
  ∀ (c : Byte) (s t : State), s.err = .noFault → perform (.cmd c) s = .next t → t.err ≠ .noFault →
    t = faulted t.err { s with env := t.env } ∧ t.env.pending = s.env.pending ∧ t.env.returned = s.env.returned ∧
    (t.err ≠ .clock → t.env = s.env)

/-! ### The host port -/

/-- 20_memory.md R44: a write of an operand register takes the whole value and changes nothing else, in every state. -/
def Obligations.OperandWriteTakesTheWholeValue : Prop :=
  ∀ (s : State) (v : Nat),
    (v < 2 ^ 32 → perform (.wr 0x02 v) s = .next { s with keyLen := BitVec.ofNat 32 v }) ∧
    (v < 2 ^ 8 → perform (.wr 0x03 v) s = .next { s with digits := BitVec.ofNat 8 v }) ∧
    (v < 2 ^ 64 → perform (.wr 0x04 v) s = .next { s with timestep := BitVec.ofNat 64 v }) ∧
    (v < 2 ^ 64 → perform (.wr 0x05 v) s = .next { s with time := BitVec.ofNat 64 v })

/-- 20_memory.md section 2: a read returns the location's value at its own width and changes no state of the core. That the value
is appended to the host's list is the model's choice (log entry 3). -/
def Obligations.ReadReturnsTheLocation : Prop :=
  (∀ (l : Loc) (s : State), perform (.rd l.number) s =
    .next { s with env := { s.env with returned := s.env.returned ++ [readLoc s l] } }) ∧
  (∀ s : State, readLoc s .status = .byte (statusWord s) ∧ readLoc s .keyLen = .word32 s.keyLen ∧
    readLoc s .digits = .byte s.digits ∧ readLoc s .timestep = .word64 s.timestep ∧ readLoc s .time = .word64 s.time ∧
    readLoc s .counter = .word64 s.counter ∧ readLoc s .offset = .byte s.offset ∧ readLoc s .code31 = .word32 s.code31 ∧
    readLoc s .codeVal = .word64 s.codeVal ∧ readLoc s .codeLen = .byte s.codeLen ∧
    (∀ i : Fin 8, readLoc s (.msg i) = .byte s.msg[i]) ∧ (∀ i : Fin 20, readLoc s (.digest i) = .byte s.digest[i]) ∧
    (∀ i : Fin 19, readLoc s (.codeStr i) = .byte s.codeStr[i]))

/-- 20_memory.md section 2: a read of CMD returns 0x00 and changes no state of the core. That the value is appended to the
host's list is the model's choice (log entry 3). -/
def Obligations.ReadOfCmdReturnsZero : Prop :=
  ∀ s : State, perform (.rd 0x00) s = .next { s with env := { s.env with returned := s.env.returned ++ [.byte 0x00] } }

/-- 20_memory.md R46, for a key memory of any capacity `K`: a key write stores one byte and changes nothing else (key memory
in its canonical form, which EveryStepKeepsTheInvariant keeps). This instance's `WRK` is the case of its own capacity. -/
def Obligations.KeyWriteStoresOneByte : Prop :=
  (∀ (K i b : Nat) (s : State), Memory.wf s.key → i < K → b ≤ 255 →
    ∃ m : Memory, hostWriteKey K i b s = .next { s with key := m } ∧ (Memory.read m i).toNat = b ∧
      ∀ j, j ≠ i → Memory.read m j = Memory.read s.key j) ∧
  (∀ (i b : Nat) (s : State), perform (.wrk i b) s = hostWriteKey Config.keyMax i b s)

/-- 20_memory.md section 5, idempotency: a host write performed twice is the write performed once. -/
def Obligations.HostWritesAreIdempotent : Prop :=
  (∀ (K i b : Nat) (s t : State), Memory.wf s.key → hostWriteKey K i b s = .next t → hostWriteKey K i b t = .next t) ∧
  (∀ (n : Byte) (v : Nat) (s t : State), n ≠ 0x00 → hostWrite n v s = .next t → hostWrite n v t = .next t)

/-- The canonical form of key memory (the model's own representation of 10_state.md section 6): the same bytes are the same
data. -/
def Obligations.EqualKeyBytesAreEqualData : Prop :=
  ∀ m n : Memory, Memory.wf m → Memory.wf n → (∀ i, Memory.read m i = Memory.read n i) → m = n

/-- 20_memory.md section 2, key reads by the host, for a key memory of any capacity `K`: the value returned is 0x00 whatever
the byte holds. That it is appended to the host's list is the model's choice (log entry 3). -/
def Obligations.KeyReadReturnsZero : Prop :=
  (∀ (K i : Nat) (s : State), i < K →
    hostReadKey K i s = .next { s with env := { s.env with returned := s.env.returned ++ [.byte 0x00] } }) ∧
  (∀ (i : Nat) (s : State), perform (.rdk i) s = hostReadKey Config.keyMax i s)

/-- 20_memory.md section 2, what the core reads as the secret: `KEY[0 .. KEYLEN-1]`. -/
def Obligations.SecretIsTheFirstKeyLenBytes : Prop :=
  ∀ s : State, (secret s).length = s.keyLen.toNat ∧
    ∀ i, i < s.keyLen.toNat → (secret s)[i]? = some (Memory.read s.key i)

/-- 45_commands.md section 5, "no command writes key memory except CLEAR": nor does any host event but a key write and the
reset input. -/
def Obligations.OnlyClearResetAndKeyWritesChangeTheKey : Prop :=
  ∀ (ev : HostEvent) (s t : State), perform ev s = .next t → t.key ≠ s.key →
    ev = .rst ∨ ev = .cmd 0x04 ∨ ev = .wr 0x00 4 ∨ ∃ i b, ev = .wrk i b

/-- 10_state.md section 9, secrecy of the key, an inference of the spec ("[derived: from rule R25, 60_exceptions.md rule
R139]"): two states that agree
on all that may not depend on the key bytes still agree after any event, stops and returned values included, unless the
event is itself a read of a key-dependent location. -/
def Obligations.KeyBytesShowOnlyInTheNamedRegisters : Prop :=
  ∀ (ev : HostEvent) (s t : State), withoutKey s = withoutKey t → readsKeyResult ev = false →
    sameButForKey (perform ev s) (perform ev t)

/-! ### The stages -/

/-- 40_counter_encoder.md R72: the counter is the unsigned floor quotient, which is at most the time. -/
def Obligations.CounterIsTheFloorQuotient : Prop :=
  ∀ (x d : Word64) (h : d ≠ 0), (counterOf x d h).toNat = x.toNat / d.toNat ∧ (counterOf x d h).toNat ≤ x.toNat

/-- 40_counter_encoder.md R74: byte `i` of the counter's encoding is `(counter div 2^(8*(7-i))) mod 256`; nothing of the
counter is lost. -/
def Obligations.CounterBytesAreBigEndian : Prop :=
  ∀ c : Word64, (∀ i : Fin 8, ((be8 c)[i]).toNat = c.toNat / 2 ^ (8 * (7 - i.val)) % 256) ∧ beVal (be8 c).toList = c.toNat

/-- 41_sha1.md R79: the padded message, its length, and the least number of zero bytes. -/
def Obligations.PaddingFillsWholeBlocks : Prop :=
  ∀ m : List Byte, ∃ z : Nat, sha1Pad m = m ++ [0x80] ++ List.replicate z 0x00 ++ (beBytes 8 (8 * m.length)).toList ∧
    (m.length + 1 + z + 8) % 64 = 0 ∧ (∀ y, (m.length + 1 + y + 8) % 64 = 0 → z ≤ y) ∧
    (sha1Pad m).length = 64 * ((m.length + 8) / 64 + 1)

/-- 41_sha1.md R83: the first sixteen schedule words are the block's, the others follow the recurrence; what a block's word is
(R78) and what a rotation is (00_scope.md R10). -/
def Obligations.ScheduleFollowsItsRecurrence : Prop :=
  (∀ (B : Vector Byte 64) (j : Fin 16), (blockWord B j).toNat =
    B[4 * j.val].toNat * 2 ^ 24 + B[4 * j.val + 1].toNat * 2 ^ 16 + B[4 * j.val + 2].toNat * 2 ^ 8 + B[4 * j.val + 3].toNat) ∧
  (∀ (x : Word32) (n : Nat), 0 < n → n < 32 → (rotl32 x n).toNat = x.toNat * 2 ^ n % 2 ^ 32 + x.toNat / 2 ^ (32 - n)) ∧
  ∀ B : Vector Byte 64, (schedule B).length = 80 ∧
    (∀ j : Fin 16, (schedule B)[j.val]? = some (blockWord B j)) ∧
    (∀ t, 16 ≤ t → t < 80 → (schedule B).getD t 0 =
      rotl32 ((schedule B).getD (t - 3) 0 ^^^ (schedule B).getD (t - 8) 0 ^^^ (schedule B).getD (t - 14) 0 ^^^
        (schedule B).getD (t - 16) 0) 1)

/-- 41_sha1.md R80 to R87 beside the schedule of R83: the initial value, the round function bit by bit (choose, parity,
majority), the round constants, the five new registers of one round, the compression of a block, the blocks of a padded
message in order, and the digest bytes of the final chaining value, `H0` first, each word most significant byte first. -/
def Obligations.DigestBytesOfTheChainingValue : Prop :=
  sha1IV = ⟨0x67452301, 0xEFCDAB89, 0x98BADCFE, 0x10325476, 0xC3D2E1F0⟩ ∧
  (∀ (t k : Nat) (x y z : Word32), k < 32 →
    (t ≤ 19 → (roundFun t x y z).getLsbD k = if x.getLsbD k then y.getLsbD k else z.getLsbD k) ∧
    (20 ≤ t → t ≤ 39 ∨ 60 ≤ t → t ≤ 79 →
      (roundFun t x y z).getLsbD k = ((x.getLsbD k ^^ y.getLsbD k) ^^ z.getLsbD k)) ∧
    (40 ≤ t → t ≤ 59 → ((roundFun t x y z).getLsbD k = true ↔
      2 ≤ (x.getLsbD k).toNat + (y.getLsbD k).toNat + (z.getLsbD k).toNat))) ∧
  (∀ t : Nat, (t ≤ 19 → roundConst t = 0x5A827999) ∧ (20 ≤ t → t ≤ 39 → roundConst t = 0x6ED9EBA1) ∧
    (40 ≤ t → t ≤ 59 → roundConst t = 0x8F1BBCDC) ∧ (60 ≤ t → t ≤ 79 → roundConst t = 0xCA62C1D6)) ∧
  (∀ (t : Nat) (w : Word32) (s : Words5), t ≤ 79 →
    (sha1Round t w s).a.toNat = ((rotl32 s.a 5).toNat + (roundFun t s.b s.c s.d).toNat + s.e.toNat + (roundConst t).toNat
      + w.toNat) % 2 ^ 32 ∧
    (sha1Round t w s).b = s.a ∧ (sha1Round t w s).c = rotl32 s.b 30 ∧ (sha1Round t w s).d = s.c ∧
    (sha1Round t w s).e = s.d) ∧
  (∀ (H r : Words5) (B : Vector Byte 64),
    r = (List.range 80).foldl (fun s t => sha1Round t ((schedule B).getD t 0) s) H →
    sha1Compress H B = ⟨H.a + r.a, H.b + r.b, H.c + r.c, H.d + r.d, H.e + r.e⟩) ∧
  (∀ p : List Byte, p.length % 64 = 0 → (sha1Blocks p).flatMap (fun B => B.toList) = p) ∧
  (∀ m : List Byte, sha1 m = serialise ((sha1Blocks (sha1Pad m)).foldl sha1Compress sha1IV)) ∧
  ∀ (H : Words5) (j : Fin 5) (k : Fin 4),
    ((serialise H)[4 * j.val + k.val]).toNat = ([H.a, H.b, H.c, H.d, H.e][j]).toNat / 2 ^ (8 * (3 - k.val)) % 256

/-- 41_sha1.md section 6: the chaining registers the engine is left with serialise to the hash of the message, so the hidden
registers and the function agree (the contents are the model's reading, log entry 7). -/
def Obligations.EngineEndsWithTheHash : Prop :=
  ∀ (key m : List Byte), sha1 m = serialise (engineRun m).chain ∧
    hmacSha1 key m = serialise (hmacUnit key m).sha.chain

/-- 42_hmac_sign.md R92: the key block of a short key, of an empty one, and of a long one; the key is the bytes of key memory
at the indices below KEYLEN, in order. R93 to R95: what HMAC does with it, with the two pad bytes written out. -/
def Obligations.KeyBlockHashesOnlyLongKeys : Prop :=
  (∀ key : List Byte,
    (64 < key.length → (hmacKeyBlock key).toList = (sha1 key).toList ++ List.replicate 44 0x00) ∧
    (key.length ≤ 64 → (hmacKeyBlock key).toList = key ++ List.replicate (64 - key.length) 0x00)) ∧
  (∀ key m : List Byte, hmacSha1 key m =
    sha1 ((hmacKeyBlock key).toList.map (fun b => b ^^^ 0x5C#8) ++
      (sha1 ((hmacKeyBlock key).toList.map (fun b => b ^^^ 0x36#8) ++ m)).toList)) ∧
  ∀ (s : State) (m : List Byte), (hmacUnit (secret s) m).keyBlock =
    hmacKeyBlock ((List.range s.keyLen.toNat).map (Memory.read s.key))

/-- 43_truncation.md R102: the offset is the low nibble of the last byte; the high nibble influences nothing. -/
def Obligations.OffsetIsTheLowNibbleOfTheLastByte : Prop :=
  (∀ d : Vector Byte 20, (dtOffset d).toNat = d[19].toNat % 16) ∧
  (∀ d e : Vector Byte 20, (∀ i : Fin 19, d[i.val] = e[i.val]) → d[19] &&& 0x0F#8 = e[19] &&& 0x0F#8 →
    dtOffset d = dtOffset e ∧ dtCode31 d = dtCode31 e)

/-- 43_truncation.md R103: the code is the window read big-endian, modulo `2^31`. -/
def Obligations.TruncationReadsTheWindowBigEndian : Prop :=
  ∀ (d : Vector Byte 20) (w : List Byte), w = (d.toList.drop (dtOffset d).toNat).take 4 →
    w.length = 4 ∧ (dtCode31 d).toNat = beVal w % 2 ^ 31 ∧ (dtCode31 d).toNat ≤ 2147483647

/-- 44_digit_reducer.md R109: the reduction is the exact remainder by a power of ten that does not overflow. -/
def Obligations.ReductionIsTheExactRemainder : Prop :=
  ∀ (c : Word32) (n : Nat) (h : 1 ≤ n ∧ n ≤ 19),
    (pow10 n h).toNat = 10 ^ n ∧ (reduceCode c n h).toNat = c.toNat % 10 ^ n ∧ (reduceCode c n h).toNat < 10 ^ n ∧
    (reduceCode c n h).toNat ≤ c.toNat

/-- 44_digit_reducer.md, large digit counts, an inference of the spec ("[derived: from rules R109 and R111]"): from ten digits
on the code is the truncated integer itself, and from eleven on its first `digits - 10` characters are '0'. -/
def Obligations.LargeDigitCountsKeepTheWholeInteger : Prop :=
  ∀ (c : Word32) (n : Nat) (h : 1 ≤ n ∧ n ≤ 19), c.toNat < 2 ^ 31 → 10 ≤ n →
    (reduceCode c n h).toNat = c.toNat ∧
    ∀ i : Fin 19, i.val < n - 10 → (codeString (reduceCode c n h) n)[i] = 0x30

/-- 44_digit_reducer.md R111: the characters are the decimal digits of the value, most significant first, zero-padded on the
left: read back in base ten they give the value; the bytes beyond are 0x00. -/
def Obligations.RenderedStringReadsBackAsTheValue : Prop :=
  ∀ (v : Word64) (n : Nat), 1 ≤ n → n ≤ 19 → v.toNat < 10 ^ n →
    (∀ i : Fin 19, i.val < n → ((codeString v n)[i]).toNat = 0x30 + v.toNat / 10 ^ (n - 1 - i.val) % 10) ∧
    (∀ i : Fin 19, n ≤ i.val → (codeString v n)[i] = 0x00) ∧
    ((codeString v n).toList.take n).foldl (fun acc b => acc * 10 + (b.toNat - 0x30)) 0 = v.toNat

/-- 44_digit_reducer.md, fixed width, an inference of the spec ("[derived: from rules R111 and R112]"): the code of a good
command has exactly DIGITS characters, each '0' to '9', and the rest of CODESTR is 0x00. -/
def Obligations.CodeHasExactlyDigitsCharacters : Prop :=
  ∀ s t : State, s.err = .noFault → (exec .genat s = .next t ∨ exec .gennow s = .next t) → t.err = .noFault →
    t.codeLen = s.digits ∧ (codeText t).length = s.digits.toNat ∧
    ∀ i : Fin 19, (i.val < s.digits.toNat ↔ 0x30 ≤ (t.codeStr[i]).toNat ∧ (t.codeStr[i]).toNat ≤ 0x39) ∧
      (s.digits.toNat ≤ i.val → t.codeStr[i] = 0x00)

/-! ### Invariants -/

/-- The reset state meets the invariant. -/
def Obligations.ResetMeetsTheInvariant : Prop := CoreInv State.reset

/-- Every step keeps the invariant (10_state.md sections 6 to 9): flags and ERR agree, the result registers hold the results
of accepted operands or zero, key memory stays canonical and inside space K, hidden state is zero between transactions. -/
def Obligations.EveryStepKeepsTheInvariant : Prop := ∀ s t : State, CoreInv s → step s = .next t → CoreInv t
end

