-- ==== Sys2Proof/Laws/Bytes.lean ====
section
/-! SUPPORT. Byte strings: what an element of each built vector is. -/

namespace Sys2Proof.Machine

/-- Byte `i` of `BE_n(v)` as a number (00_scope.md R10). -/
theorem beByte_toNat (n v i : Nat) : (beByte n v i).toNat = v / 2 ^ (8 * (n - 1 - i)) % 256 := by
  simp [beByte]

@[simp] theorem beBytes_get (n v i : Nat) (h : i < n) : (beBytes n v)[i] = beByte n v i := by
  simp [beBytes]

@[simp] theorem zeroPad_get (n : Nat) (m : List Byte) (i : Nat) (h : i < n) : (zeroPad n m)[i] = m.getD i 0 := by
  simp [zeroPad]

@[simp] theorem xorBlock_get (pad : Byte) (K : Vector Byte 64) (i : Nat) (h : i < 64) :
    (xorBlock pad K)[i] = K[i] ^^^ pad := by
  simp [xorBlock]

@[simp] theorem codeString_get (v : Word64) (n i : Nat) (h : i < 19) :
    (codeString v n)[i] = if i < n then renderChar v n i else 0x00 := by
  simp [codeString]

@[simp] theorem serialise_get (H : Words5) (i : Nat) (h : i < 20) :
    (serialise H)[i] = beByte 4 (chainWord H (i / 4)).toNat (i % 4) := by
  simp [serialise]

/-- A rendered character as a number: '0' plus a decimal digit (44_digit_reducer.md R111). -/
theorem renderChar_toNat (v : Word64) (n i : Nat) : (renderChar v n i).toNat = 0x30 + v.toNat / 10 ^ (n - 1 - i) % 10 := by
  have := Nat.mod_lt (v.toNat / 10 ^ (n - 1 - i)) (show 0 < 10 by decide)
  simp only [renderChar, BitVec.toNat_ofNat]
  omega

/-- The secret has KEYLEN bytes (10_state.md R21). -/
@[simp] theorem length_secret (s : State) : (secret s).length = s.keyLen.toNat := by simp [secret]

end Sys2Proof.Machine
end

