-- ==== Sys2Proof/Laws/State.lean ====
section
/-! SUPPORT. The fields of a state after each update: one lemma per field per update, so that no proof unfolds a record
update. -/

namespace Sys2Proof.Machine

variable (s : State)

@[simp] theorem resultsClear_err : (resultsClear s).err = s.err := rfl
@[simp] theorem resultsClear_vSign : (resultsClear s).vSign = false := rfl
@[simp] theorem resultsClear_vCode : (resultsClear s).vCode = false := rfl
@[simp] theorem resultsClear_keyLen : (resultsClear s).keyLen = s.keyLen := rfl
@[simp] theorem resultsClear_digits : (resultsClear s).digits = s.digits := rfl
@[simp] theorem resultsClear_timestep : (resultsClear s).timestep = s.timestep := rfl
@[simp] theorem resultsClear_time : (resultsClear s).time = s.time := rfl
@[simp] theorem resultsClear_counter : (resultsClear s).counter = 0 := rfl
@[simp] theorem resultsClear_offset : (resultsClear s).offset = 0 := rfl
@[simp] theorem resultsClear_code31 : (resultsClear s).code31 = 0 := rfl
@[simp] theorem resultsClear_codeVal : (resultsClear s).codeVal = 0 := rfl
@[simp] theorem resultsClear_codeLen : (resultsClear s).codeLen = 0 := rfl
@[simp] theorem resultsClear_msg : (resultsClear s).msg = Vector.replicate 8 0 := rfl
@[simp] theorem resultsClear_digest : (resultsClear s).digest = Vector.replicate 20 0 := rfl
@[simp] theorem resultsClear_codeStr : (resultsClear s).codeStr = Vector.replicate 19 0 := rfl
@[simp] theorem resultsClear_key : (resultsClear s).key = s.key := rfl
@[simp] theorem resultsClear_hmac : (resultsClear s).hmac = s.hmac := rfl
@[simp] theorem resultsClear_clockLatch : (resultsClear s).clockLatch = s.clockLatch := rfl
@[simp] theorem resultsClear_env : (resultsClear s).env = s.env := rfl

@[simp] theorem scrubInternal_err : (scrubInternal s).err = s.err := rfl
@[simp] theorem scrubInternal_vSign : (scrubInternal s).vSign = s.vSign := rfl
@[simp] theorem scrubInternal_vCode : (scrubInternal s).vCode = s.vCode := rfl
@[simp] theorem scrubInternal_keyLen : (scrubInternal s).keyLen = s.keyLen := rfl
@[simp] theorem scrubInternal_digits : (scrubInternal s).digits = s.digits := rfl
@[simp] theorem scrubInternal_timestep : (scrubInternal s).timestep = s.timestep := rfl
@[simp] theorem scrubInternal_time : (scrubInternal s).time = s.time := rfl
@[simp] theorem scrubInternal_counter : (scrubInternal s).counter = s.counter := rfl
@[simp] theorem scrubInternal_offset : (scrubInternal s).offset = s.offset := rfl
@[simp] theorem scrubInternal_code31 : (scrubInternal s).code31 = s.code31 := rfl
@[simp] theorem scrubInternal_codeVal : (scrubInternal s).codeVal = s.codeVal := rfl
@[simp] theorem scrubInternal_codeLen : (scrubInternal s).codeLen = s.codeLen := rfl
@[simp] theorem scrubInternal_msg : (scrubInternal s).msg = s.msg := rfl
@[simp] theorem scrubInternal_digest : (scrubInternal s).digest = s.digest := rfl
@[simp] theorem scrubInternal_codeStr : (scrubInternal s).codeStr = s.codeStr := rfl
@[simp] theorem scrubInternal_key : (scrubInternal s).key = s.key := rfl
@[simp] theorem scrubInternal_hmac : (scrubInternal s).hmac = .zero := rfl
@[simp] theorem scrubInternal_clockLatch : (scrubInternal s).clockLatch = noSample := rfl
@[simp] theorem scrubInternal_env : (scrubInternal s).env = s.env := rfl

@[simp] theorem raiseFault_err (e : Err) : (raiseFault e s).err = e := rfl
@[simp] theorem raiseFault_vSign (e : Err) : (raiseFault e s).vSign = false := rfl
@[simp] theorem raiseFault_vCode (e : Err) : (raiseFault e s).vCode = false := rfl
@[simp] theorem raiseFault_keyLen (e : Err) : (raiseFault e s).keyLen = s.keyLen := rfl
@[simp] theorem raiseFault_digits (e : Err) : (raiseFault e s).digits = s.digits := rfl
@[simp] theorem raiseFault_timestep (e : Err) : (raiseFault e s).timestep = s.timestep := rfl
@[simp] theorem raiseFault_time (e : Err) : (raiseFault e s).time = s.time := rfl
@[simp] theorem raiseFault_counter (e : Err) : (raiseFault e s).counter = 0 := rfl
@[simp] theorem raiseFault_offset (e : Err) : (raiseFault e s).offset = 0 := rfl
@[simp] theorem raiseFault_code31 (e : Err) : (raiseFault e s).code31 = 0 := rfl
@[simp] theorem raiseFault_codeVal (e : Err) : (raiseFault e s).codeVal = 0 := rfl
@[simp] theorem raiseFault_codeLen (e : Err) : (raiseFault e s).codeLen = 0 := rfl
@[simp] theorem raiseFault_msg (e : Err) : (raiseFault e s).msg = Vector.replicate 8 0 := rfl
@[simp] theorem raiseFault_digest (e : Err) : (raiseFault e s).digest = Vector.replicate 20 0 := rfl
@[simp] theorem raiseFault_codeStr (e : Err) : (raiseFault e s).codeStr = Vector.replicate 19 0 := rfl
@[simp] theorem raiseFault_key (e : Err) : (raiseFault e s).key = s.key := rfl
@[simp] theorem raiseFault_hmac (e : Err) : (raiseFault e s).hmac = .zero := rfl
@[simp] theorem raiseFault_clockLatch (e : Err) : (raiseFault e s).clockLatch = noSample := rfl
@[simp] theorem raiseFault_env (e : Err) : (raiseFault e s).env = s.env := rfl

@[simp] theorem doClear_err : (doClear s).err = .noFault := rfl
@[simp] theorem doClear_vSign : (doClear s).vSign = false := rfl
@[simp] theorem doClear_vCode : (doClear s).vCode = false := rfl
@[simp] theorem doClear_keyLen : (doClear s).keyLen = 0 := rfl
@[simp] theorem doClear_digits : (doClear s).digits = 0 := rfl
@[simp] theorem doClear_timestep : (doClear s).timestep = 0 := rfl
@[simp] theorem doClear_time : (doClear s).time = 0 := rfl
@[simp] theorem doClear_counter : (doClear s).counter = 0 := rfl
@[simp] theorem doClear_offset : (doClear s).offset = 0 := rfl
@[simp] theorem doClear_code31 : (doClear s).code31 = 0 := rfl
@[simp] theorem doClear_codeVal : (doClear s).codeVal = 0 := rfl
@[simp] theorem doClear_codeLen : (doClear s).codeLen = 0 := rfl
@[simp] theorem doClear_msg : (doClear s).msg = Vector.replicate 8 0 := rfl
@[simp] theorem doClear_digest : (doClear s).digest = Vector.replicate 20 0 := rfl
@[simp] theorem doClear_codeStr : (doClear s).codeStr = Vector.replicate 19 0 := rfl
@[simp] theorem doClear_key : (doClear s).key = [] := rfl
@[simp] theorem doClear_hmac : (doClear s).hmac = .zero := rfl
@[simp] theorem doClear_clockLatch : (doClear s).clockLatch = noSample := rfl
@[simp] theorem doClear_env : (doClear s).env = s.env := rfl

@[simp] theorem resetCore_err : (resetCore s).err = .noFault := rfl
@[simp] theorem resetCore_vSign : (resetCore s).vSign = false := rfl
@[simp] theorem resetCore_vCode : (resetCore s).vCode = false := rfl
@[simp] theorem resetCore_keyLen : (resetCore s).keyLen = 0 := rfl
@[simp] theorem resetCore_digits : (resetCore s).digits = 0 := rfl
@[simp] theorem resetCore_timestep : (resetCore s).timestep = 0 := rfl
@[simp] theorem resetCore_time : (resetCore s).time = 0 := rfl
@[simp] theorem resetCore_counter : (resetCore s).counter = 0 := rfl
@[simp] theorem resetCore_offset : (resetCore s).offset = 0 := rfl
@[simp] theorem resetCore_code31 : (resetCore s).code31 = 0 := rfl
@[simp] theorem resetCore_codeVal : (resetCore s).codeVal = 0 := rfl
@[simp] theorem resetCore_codeLen : (resetCore s).codeLen = 0 := rfl
@[simp] theorem resetCore_msg : (resetCore s).msg = Vector.replicate 8 0 := rfl
@[simp] theorem resetCore_digest : (resetCore s).digest = Vector.replicate 20 0 := rfl
@[simp] theorem resetCore_codeStr : (resetCore s).codeStr = Vector.replicate 19 0 := rfl
@[simp] theorem resetCore_key : (resetCore s).key = [] := rfl
@[simp] theorem resetCore_hmac : (resetCore s).hmac = .zero := rfl
@[simp] theorem resetCore_clockLatch : (resetCore s).clockLatch = noSample := rfl
@[simp] theorem resetCore_env : (resetCore s).env = s.env := rfl

@[simp] theorem withPending_err (evs : List HostEvent) : (withPending evs s).err = s.err := rfl
@[simp] theorem withPending_vSign (evs : List HostEvent) : (withPending evs s).vSign = s.vSign := rfl
@[simp] theorem withPending_vCode (evs : List HostEvent) : (withPending evs s).vCode = s.vCode := rfl
@[simp] theorem withPending_keyLen (evs : List HostEvent) : (withPending evs s).keyLen = s.keyLen := rfl
@[simp] theorem withPending_digits (evs : List HostEvent) : (withPending evs s).digits = s.digits := rfl
@[simp] theorem withPending_timestep (evs : List HostEvent) : (withPending evs s).timestep = s.timestep := rfl
@[simp] theorem withPending_time (evs : List HostEvent) : (withPending evs s).time = s.time := rfl
@[simp] theorem withPending_counter (evs : List HostEvent) : (withPending evs s).counter = s.counter := rfl
@[simp] theorem withPending_offset (evs : List HostEvent) : (withPending evs s).offset = s.offset := rfl
@[simp] theorem withPending_code31 (evs : List HostEvent) : (withPending evs s).code31 = s.code31 := rfl
@[simp] theorem withPending_codeVal (evs : List HostEvent) : (withPending evs s).codeVal = s.codeVal := rfl
@[simp] theorem withPending_codeLen (evs : List HostEvent) : (withPending evs s).codeLen = s.codeLen := rfl
@[simp] theorem withPending_msg (evs : List HostEvent) : (withPending evs s).msg = s.msg := rfl
@[simp] theorem withPending_digest (evs : List HostEvent) : (withPending evs s).digest = s.digest := rfl
@[simp] theorem withPending_codeStr (evs : List HostEvent) : (withPending evs s).codeStr = s.codeStr := rfl
@[simp] theorem withPending_key (evs : List HostEvent) : (withPending evs s).key = s.key := rfl
@[simp] theorem withPending_hmac (evs : List HostEvent) : (withPending evs s).hmac = s.hmac := rfl
@[simp] theorem withPending_clockLatch (evs : List HostEvent) : (withPending evs s).clockLatch = s.clockLatch := rfl
@[simp] theorem withPending_env (evs : List HostEvent) : (withPending evs s).env = { s.env with pending := evs } := rfl

@[simp] theorem giveToHost_err (v : ReadValue) : (giveToHost v s).err = s.err := rfl
@[simp] theorem giveToHost_vSign (v : ReadValue) : (giveToHost v s).vSign = s.vSign := rfl
@[simp] theorem giveToHost_vCode (v : ReadValue) : (giveToHost v s).vCode = s.vCode := rfl
@[simp] theorem giveToHost_keyLen (v : ReadValue) : (giveToHost v s).keyLen = s.keyLen := rfl
@[simp] theorem giveToHost_digits (v : ReadValue) : (giveToHost v s).digits = s.digits := rfl
@[simp] theorem giveToHost_timestep (v : ReadValue) : (giveToHost v s).timestep = s.timestep := rfl
@[simp] theorem giveToHost_time (v : ReadValue) : (giveToHost v s).time = s.time := rfl
@[simp] theorem giveToHost_counter (v : ReadValue) : (giveToHost v s).counter = s.counter := rfl
@[simp] theorem giveToHost_offset (v : ReadValue) : (giveToHost v s).offset = s.offset := rfl
@[simp] theorem giveToHost_code31 (v : ReadValue) : (giveToHost v s).code31 = s.code31 := rfl
@[simp] theorem giveToHost_codeVal (v : ReadValue) : (giveToHost v s).codeVal = s.codeVal := rfl
@[simp] theorem giveToHost_codeLen (v : ReadValue) : (giveToHost v s).codeLen = s.codeLen := rfl
@[simp] theorem giveToHost_msg (v : ReadValue) : (giveToHost v s).msg = s.msg := rfl
@[simp] theorem giveToHost_digest (v : ReadValue) : (giveToHost v s).digest = s.digest := rfl
@[simp] theorem giveToHost_codeStr (v : ReadValue) : (giveToHost v s).codeStr = s.codeStr := rfl
@[simp] theorem giveToHost_key (v : ReadValue) : (giveToHost v s).key = s.key := rfl
@[simp] theorem giveToHost_hmac (v : ReadValue) : (giveToHost v s).hmac = s.hmac := rfl
@[simp] theorem giveToHost_clockLatch (v : ReadValue) : (giveToHost v s).clockLatch = s.clockLatch := rfl
@[simp] theorem giveToHost_env (v : ReadValue) : (giveToHost v s).env = { s.env with returned := s.env.returned ++ [v] } := rfl

@[simp] theorem drawSample_err : (drawSample s).err = s.err := rfl
@[simp] theorem drawSample_vSign : (drawSample s).vSign = s.vSign := rfl
@[simp] theorem drawSample_vCode : (drawSample s).vCode = s.vCode := rfl
@[simp] theorem drawSample_keyLen : (drawSample s).keyLen = s.keyLen := rfl
@[simp] theorem drawSample_digits : (drawSample s).digits = s.digits := rfl
@[simp] theorem drawSample_timestep : (drawSample s).timestep = s.timestep := rfl
@[simp] theorem drawSample_time : (drawSample s).time = s.time := rfl
@[simp] theorem drawSample_counter : (drawSample s).counter = s.counter := rfl
@[simp] theorem drawSample_offset : (drawSample s).offset = s.offset := rfl
@[simp] theorem drawSample_code31 : (drawSample s).code31 = s.code31 := rfl
@[simp] theorem drawSample_codeVal : (drawSample s).codeVal = s.codeVal := rfl
@[simp] theorem drawSample_codeLen : (drawSample s).codeLen = s.codeLen := rfl
@[simp] theorem drawSample_msg : (drawSample s).msg = s.msg := rfl
@[simp] theorem drawSample_digest : (drawSample s).digest = s.digest := rfl
@[simp] theorem drawSample_codeStr : (drawSample s).codeStr = s.codeStr := rfl
@[simp] theorem drawSample_key : (drawSample s).key = s.key := rfl
@[simp] theorem drawSample_hmac : (drawSample s).hmac = s.hmac := rfl
@[simp] theorem drawSample_clockLatch : (drawSample s).clockLatch = nextSample s := rfl
@[simp] theorem drawSample_env : (drawSample s).env = { s.env with clockSamples := s.env.clockSamples.tail, clockDraws := s.env.clockDraws + 1 } := rfl

@[simp] theorem setVSign_err : (setVSign s).err = s.err := rfl
@[simp] theorem setVSign_vSign : (setVSign s).vSign = true := rfl
@[simp] theorem setVSign_vCode : (setVSign s).vCode = s.vCode := rfl
@[simp] theorem setVSign_keyLen : (setVSign s).keyLen = s.keyLen := rfl
@[simp] theorem setVSign_digits : (setVSign s).digits = s.digits := rfl
@[simp] theorem setVSign_timestep : (setVSign s).timestep = s.timestep := rfl
@[simp] theorem setVSign_time : (setVSign s).time = s.time := rfl
@[simp] theorem setVSign_counter : (setVSign s).counter = s.counter := rfl
@[simp] theorem setVSign_offset : (setVSign s).offset = s.offset := rfl
@[simp] theorem setVSign_code31 : (setVSign s).code31 = s.code31 := rfl
@[simp] theorem setVSign_codeVal : (setVSign s).codeVal = s.codeVal := rfl
@[simp] theorem setVSign_codeLen : (setVSign s).codeLen = s.codeLen := rfl
@[simp] theorem setVSign_msg : (setVSign s).msg = s.msg := rfl
@[simp] theorem setVSign_digest : (setVSign s).digest = s.digest := rfl
@[simp] theorem setVSign_codeStr : (setVSign s).codeStr = s.codeStr := rfl
@[simp] theorem setVSign_key : (setVSign s).key = s.key := rfl
@[simp] theorem setVSign_hmac : (setVSign s).hmac = s.hmac := rfl
@[simp] theorem setVSign_clockLatch : (setVSign s).clockLatch = s.clockLatch := rfl
@[simp] theorem setVSign_env : (setVSign s).env = s.env := rfl

@[simp] theorem setVCode_err : (setVCode s).err = s.err := rfl
@[simp] theorem setVCode_vSign : (setVCode s).vSign = s.vSign := rfl
@[simp] theorem setVCode_vCode : (setVCode s).vCode = true := rfl
@[simp] theorem setVCode_keyLen : (setVCode s).keyLen = s.keyLen := rfl
@[simp] theorem setVCode_digits : (setVCode s).digits = s.digits := rfl
@[simp] theorem setVCode_timestep : (setVCode s).timestep = s.timestep := rfl
@[simp] theorem setVCode_time : (setVCode s).time = s.time := rfl
@[simp] theorem setVCode_counter : (setVCode s).counter = s.counter := rfl
@[simp] theorem setVCode_offset : (setVCode s).offset = s.offset := rfl
@[simp] theorem setVCode_code31 : (setVCode s).code31 = s.code31 := rfl
@[simp] theorem setVCode_codeVal : (setVCode s).codeVal = s.codeVal := rfl
@[simp] theorem setVCode_codeLen : (setVCode s).codeLen = s.codeLen := rfl
@[simp] theorem setVCode_msg : (setVCode s).msg = s.msg := rfl
@[simp] theorem setVCode_digest : (setVCode s).digest = s.digest := rfl
@[simp] theorem setVCode_codeStr : (setVCode s).codeStr = s.codeStr := rfl
@[simp] theorem setVCode_key : (setVCode s).key = s.key := rfl
@[simp] theorem setVCode_hmac : (setVCode s).hmac = s.hmac := rfl
@[simp] theorem setVCode_clockLatch : (setVCode s).clockLatch = s.clockLatch := rfl
@[simp] theorem setVCode_env : (setVCode s).env = s.env := rfl

@[simp] theorem stage1_err (ops : SignerOperands) : (stage1 ops s).err = s.err := rfl
@[simp] theorem stage1_vSign (ops : SignerOperands) : (stage1 ops s).vSign = s.vSign := rfl
@[simp] theorem stage1_vCode (ops : SignerOperands) : (stage1 ops s).vCode = s.vCode := rfl
@[simp] theorem stage1_keyLen (ops : SignerOperands) : (stage1 ops s).keyLen = s.keyLen := rfl
@[simp] theorem stage1_digits (ops : SignerOperands) : (stage1 ops s).digits = s.digits := rfl
@[simp] theorem stage1_timestep (ops : SignerOperands) : (stage1 ops s).timestep = s.timestep := rfl
@[simp] theorem stage1_time (ops : SignerOperands) : (stage1 ops s).time = s.time := rfl
@[simp] theorem stage1_counter (ops : SignerOperands) : (stage1 ops s).counter = counterOf ops.time ops.timestep ops.timestep_ne := rfl
@[simp] theorem stage1_offset (ops : SignerOperands) : (stage1 ops s).offset = s.offset := rfl
@[simp] theorem stage1_code31 (ops : SignerOperands) : (stage1 ops s).code31 = s.code31 := rfl
@[simp] theorem stage1_codeVal (ops : SignerOperands) : (stage1 ops s).codeVal = s.codeVal := rfl
@[simp] theorem stage1_codeLen (ops : SignerOperands) : (stage1 ops s).codeLen = s.codeLen := rfl
@[simp] theorem stage1_msg (ops : SignerOperands) : (stage1 ops s).msg = be8 (counterOf ops.time ops.timestep ops.timestep_ne) := rfl
@[simp] theorem stage1_digest (ops : SignerOperands) : (stage1 ops s).digest = s.digest := rfl
@[simp] theorem stage1_codeStr (ops : SignerOperands) : (stage1 ops s).codeStr = s.codeStr := rfl
@[simp] theorem stage1_key (ops : SignerOperands) : (stage1 ops s).key = s.key := rfl
@[simp] theorem stage1_hmac (ops : SignerOperands) : (stage1 ops s).hmac = s.hmac := rfl
@[simp] theorem stage1_clockLatch (ops : SignerOperands) : (stage1 ops s).clockLatch = s.clockLatch := rfl
@[simp] theorem stage1_env (ops : SignerOperands) : (stage1 ops s).env = s.env := rfl

@[simp] theorem stage2_err (key : List Byte) : (stage2 key s).err = s.err := rfl
@[simp] theorem stage2_vSign (key : List Byte) : (stage2 key s).vSign = s.vSign := rfl
@[simp] theorem stage2_vCode (key : List Byte) : (stage2 key s).vCode = s.vCode := rfl
@[simp] theorem stage2_keyLen (key : List Byte) : (stage2 key s).keyLen = s.keyLen := rfl
@[simp] theorem stage2_digits (key : List Byte) : (stage2 key s).digits = s.digits := rfl
@[simp] theorem stage2_timestep (key : List Byte) : (stage2 key s).timestep = s.timestep := rfl
@[simp] theorem stage2_time (key : List Byte) : (stage2 key s).time = s.time := rfl
@[simp] theorem stage2_counter (key : List Byte) : (stage2 key s).counter = s.counter := rfl
@[simp] theorem stage2_offset (key : List Byte) : (stage2 key s).offset = s.offset := rfl
@[simp] theorem stage2_code31 (key : List Byte) : (stage2 key s).code31 = s.code31 := rfl
@[simp] theorem stage2_codeVal (key : List Byte) : (stage2 key s).codeVal = s.codeVal := rfl
@[simp] theorem stage2_codeLen (key : List Byte) : (stage2 key s).codeLen = s.codeLen := rfl
@[simp] theorem stage2_msg (key : List Byte) : (stage2 key s).msg = s.msg := rfl
@[simp] theorem stage2_digest (key : List Byte) : (stage2 key s).digest = hmacSha1 key s.msg.toList := rfl
@[simp] theorem stage2_codeStr (key : List Byte) : (stage2 key s).codeStr = s.codeStr := rfl
@[simp] theorem stage2_key (key : List Byte) : (stage2 key s).key = s.key := rfl
@[simp] theorem stage2_hmac (key : List Byte) : (stage2 key s).hmac = hmacUnit key s.msg.toList := rfl
@[simp] theorem stage2_clockLatch (key : List Byte) : (stage2 key s).clockLatch = s.clockLatch := rfl
@[simp] theorem stage2_env (key : List Byte) : (stage2 key s).env = s.env := rfl

@[simp] theorem stage3_err : (stage3 s).err = s.err := rfl
@[simp] theorem stage3_vSign : (stage3 s).vSign = s.vSign := rfl
@[simp] theorem stage3_vCode : (stage3 s).vCode = s.vCode := rfl
@[simp] theorem stage3_keyLen : (stage3 s).keyLen = s.keyLen := rfl
@[simp] theorem stage3_digits : (stage3 s).digits = s.digits := rfl
@[simp] theorem stage3_timestep : (stage3 s).timestep = s.timestep := rfl
@[simp] theorem stage3_time : (stage3 s).time = s.time := rfl
@[simp] theorem stage3_counter : (stage3 s).counter = s.counter := rfl
@[simp] theorem stage3_offset : (stage3 s).offset = (dtOffset s.digest).setWidth 8 := rfl
@[simp] theorem stage3_code31 : (stage3 s).code31 = dtCode31 s.digest := rfl
@[simp] theorem stage3_codeVal : (stage3 s).codeVal = s.codeVal := rfl
@[simp] theorem stage3_codeLen : (stage3 s).codeLen = s.codeLen := rfl
@[simp] theorem stage3_msg : (stage3 s).msg = s.msg := rfl
@[simp] theorem stage3_digest : (stage3 s).digest = s.digest := rfl
@[simp] theorem stage3_codeStr : (stage3 s).codeStr = s.codeStr := rfl
@[simp] theorem stage3_key : (stage3 s).key = s.key := rfl
@[simp] theorem stage3_hmac : (stage3 s).hmac = s.hmac := rfl
@[simp] theorem stage3_clockLatch : (stage3 s).clockLatch = s.clockLatch := rfl
@[simp] theorem stage3_env : (stage3 s).env = s.env := rfl

@[simp] theorem stage4_err (n : Byte) (h : 1 ≤ n.toNat ∧ n.toNat ≤ 19) : (stage4 n h s).err = s.err := rfl
@[simp] theorem stage4_vSign (n : Byte) (h : 1 ≤ n.toNat ∧ n.toNat ≤ 19) : (stage4 n h s).vSign = s.vSign := rfl
@[simp] theorem stage4_vCode (n : Byte) (h : 1 ≤ n.toNat ∧ n.toNat ≤ 19) : (stage4 n h s).vCode = s.vCode := rfl
@[simp] theorem stage4_keyLen (n : Byte) (h : 1 ≤ n.toNat ∧ n.toNat ≤ 19) : (stage4 n h s).keyLen = s.keyLen := rfl
@[simp] theorem stage4_digits (n : Byte) (h : 1 ≤ n.toNat ∧ n.toNat ≤ 19) : (stage4 n h s).digits = s.digits := rfl
@[simp] theorem stage4_timestep (n : Byte) (h : 1 ≤ n.toNat ∧ n.toNat ≤ 19) : (stage4 n h s).timestep = s.timestep := rfl
@[simp] theorem stage4_time (n : Byte) (h : 1 ≤ n.toNat ∧ n.toNat ≤ 19) : (stage4 n h s).time = s.time := rfl
@[simp] theorem stage4_counter (n : Byte) (h : 1 ≤ n.toNat ∧ n.toNat ≤ 19) : (stage4 n h s).counter = s.counter := rfl
@[simp] theorem stage4_offset (n : Byte) (h : 1 ≤ n.toNat ∧ n.toNat ≤ 19) : (stage4 n h s).offset = s.offset := rfl
@[simp] theorem stage4_code31 (n : Byte) (h : 1 ≤ n.toNat ∧ n.toNat ≤ 19) : (stage4 n h s).code31 = s.code31 := rfl
@[simp] theorem stage4_codeVal (n : Byte) (h : 1 ≤ n.toNat ∧ n.toNat ≤ 19) : (stage4 n h s).codeVal = reduceCode s.code31 n.toNat h := rfl
@[simp] theorem stage4_codeLen (n : Byte) (h : 1 ≤ n.toNat ∧ n.toNat ≤ 19) : (stage4 n h s).codeLen = n := rfl
@[simp] theorem stage4_msg (n : Byte) (h : 1 ≤ n.toNat ∧ n.toNat ≤ 19) : (stage4 n h s).msg = s.msg := rfl
@[simp] theorem stage4_digest (n : Byte) (h : 1 ≤ n.toNat ∧ n.toNat ≤ 19) : (stage4 n h s).digest = s.digest := rfl
@[simp] theorem stage4_codeStr (n : Byte) (h : 1 ≤ n.toNat ∧ n.toNat ≤ 19) : (stage4 n h s).codeStr = codeString (reduceCode s.code31 n.toNat h) n.toNat := rfl
@[simp] theorem stage4_key (n : Byte) (h : 1 ≤ n.toNat ∧ n.toNat ≤ 19) : (stage4 n h s).key = s.key := rfl
@[simp] theorem stage4_hmac (n : Byte) (h : 1 ≤ n.toNat ∧ n.toNat ≤ 19) : (stage4 n h s).hmac = s.hmac := rfl
@[simp] theorem stage4_clockLatch (n : Byte) (h : 1 ≤ n.toNat ∧ n.toNat ≤ 19) : (stage4 n h s).clockLatch = s.clockLatch := rfl
@[simp] theorem stage4_env (n : Byte) (h : 1 ≤ n.toNat ∧ n.toNat ≤ 19) : (stage4 n h s).env = s.env := rfl

end Sys2Proof.Machine
end

