-- ==== Sys2Proof/Laws/Commands.lean ====
section
/-! SUPPORT. What each command can do, said once: the cases a proof cites instead of unfolding the command frame. -/

namespace Sys2Proof.Machine

@[simp] theorem raiseFault_resultsClear (e : Err) (s : State) : raiseFault e (resultsClear s) = raiseFault e s := rfl

@[simp] theorem resultsClear_idem (s : State) : resultsClear (resultsClear s) = resultsClear s := rfl

@[simp] theorem secret_resultsClear (s : State) : secret (resultsClear s) = secret s := rfl

@[simp] theorem nextSample_resultsClear (s : State) : nextSample (resultsClear s) = nextSample s := rfl

@[simp] theorem signerOperands_resultsClear (s : State) (h : s.timestep ≠ 0) :
    signerOperands (resultsClear s) h = signerOperands s h := rfl

@[simp] theorem codeOperands_resultsClear (s : State) (h : s.timestep ≠ 0) (r : 1 ≤ s.digits.toNat ∧ s.digits.toNat ≤ 19) :
    codeOperands (resultsClear s) h r = codeOperands s h r := rfl

theorem resetCore_eq_doClear (s : State) : resetCore s = doClear s := rfl

/-- The operands SIGN accepts. -/
theorem validateSigner_cases (K : Nat) (s : State) :
    (s.timestep = 0 ∧ validateSigner K s = .error .timestep) ∨
    (s.timestep ≠ 0 ∧ K < s.keyLen.toNat ∧ validateSigner K s = .error .keyLen) ∨
    (s.keyLen.toNat ≤ K ∧ ∃ h : s.timestep ≠ 0, validateSigner K s = .ok (signerOperands s h)) := by
  by_cases ht : s.timestep = 0
  · exact .inl ⟨ht, by rw [validateSigner, dif_pos ht]⟩
  · by_cases hk : K < s.keyLen.toNat
    · exact .inr (.inl ⟨ht, hk, by rw [validateSigner, dif_neg ht, if_pos hk]⟩)
    · exact .inr (.inr ⟨by omega, ht, by rw [validateSigner, dif_neg ht, if_neg hk]⟩)

/-- SIGN: ignored, one of two faults, or the good end. -/
theorem signWith_cases (K : Nat) (s : State) :
    (s.err ≠ .noFault ∧ signWith K s = s) ∨
    (s.err = .noFault ∧ s.timestep = 0 ∧ signWith K s = raiseFault .timestep s) ∨
    (s.err = .noFault ∧ s.timestep ≠ 0 ∧ K < s.keyLen.toNat ∧ signWith K s = raiseFault .keyLen s) ∨
    (s.err = .noFault ∧ s.keyLen.toNat ≤ K ∧ ∃ h : s.timestep ≠ 0,
      signWith K s = scrubInternal (setVSign (signerStages (signerOperands s h) (resultsClear s)))) := by
  by_cases he : s.err = .noFault
  · rcases validateSigner_cases K (resultsClear s) with ⟨ht, e⟩ | ⟨ht, hk, e⟩ | ⟨hk, ht, e⟩
    · exact .inr (.inl ⟨he, ht, by simp [signWith, he, e]⟩)
    · exact .inr (.inr (.inl ⟨he, ht, hk, by simp [signWith, he, e]⟩))
    · exact .inr (.inr (.inr ⟨he, hk, ht, by rw [signWith, if_neg (by simp [he]), e]; rfl⟩))
  · exact .inl ⟨he, by simp [signWith, he]⟩

/-- The operands GENAT and GENNOW accept. -/
theorem validateCode_cases (K : Nat) (s : State) :
    (s.timestep = 0 ∧ validateCode K s = .error .timestep) ∨
    (s.timestep ≠ 0 ∧ K < s.keyLen.toNat ∧ validateCode K s = .error .keyLen) ∨
    (s.timestep ≠ 0 ∧ s.keyLen.toNat ≤ K ∧ ¬(1 ≤ s.digits.toNat ∧ s.digits.toNat ≤ 19) ∧
      validateCode K s = .error .digits) ∨
    (s.keyLen.toNat ≤ K ∧ ∃ (h : s.timestep ≠ 0) (r : 1 ≤ s.digits.toNat ∧ s.digits.toNat ≤ 19),
      validateCode K s = .ok (codeOperands s h r)) := by
  by_cases ht : s.timestep = 0
  · exact .inl ⟨ht, by rw [validateCode, dif_pos ht]⟩
  · by_cases hk : K < s.keyLen.toNat
    · exact .inr (.inl ⟨ht, hk, by rw [validateCode, dif_neg ht, if_pos hk]⟩)
    · by_cases hr : 1 ≤ s.digits.toNat ∧ s.digits.toNat ≤ 19
      · exact .inr (.inr (.inr ⟨by omega, ht, hr, by rw [validateCode, dif_neg ht, if_neg hk, dif_pos hr]⟩))
      · exact .inr (.inr (.inl ⟨ht, by omega, hr, by rw [validateCode, dif_neg ht, if_neg hk, dif_neg hr]⟩))

/-- GENAT: ignored, one of three faults, or the good end. -/
theorem genatWith_cases (K : Nat) (s : State) :
    (s.err ≠ .noFault ∧ genatWith K s = s) ∨
    (s.err = .noFault ∧ s.timestep = 0 ∧ genatWith K s = raiseFault .timestep s) ∨
    (s.err = .noFault ∧ s.timestep ≠ 0 ∧ K < s.keyLen.toNat ∧ genatWith K s = raiseFault .keyLen s) ∨
    (s.err = .noFault ∧ s.timestep ≠ 0 ∧ s.keyLen.toNat ≤ K ∧ ¬(1 ≤ s.digits.toNat ∧ s.digits.toNat ≤ 19) ∧
      genatWith K s = raiseFault .digits s) ∨
    (s.err = .noFault ∧ s.keyLen.toNat ≤ K ∧ ∃ (h : s.timestep ≠ 0) (r : 1 ≤ s.digits.toNat ∧ s.digits.toNat ≤ 19),
      genatWith K s = generate (codeOperands s h r) (resultsClear s)) := by
  by_cases he : s.err = .noFault
  · rcases validateCode_cases K (resultsClear s) with ⟨ht, e⟩ | ⟨ht, hk, e⟩ | ⟨ht, hk, hr, e⟩ | ⟨hk, ht, hr, e⟩
    · exact .inr (.inl ⟨he, ht, by simp [genatWith, he, e]⟩)
    · exact .inr (.inr (.inl ⟨he, ht, hk, by simp [genatWith, he, e]⟩))
    · exact .inr (.inr (.inr (.inl ⟨he, ht, hk, hr, by simp [genatWith, he, e]⟩)))
    · exact .inr (.inr (.inr (.inr ⟨he, hk, ht, hr, by rw [genatWith, if_neg (by simp [he]), e]; rfl⟩)))
  · exact .inl ⟨he, by simp [genatWith, he]⟩

/-- GENNOW: ignored, one of three configuration faults, the clock fault, or the good end. -/
theorem gennowWith_cases (K : Nat) (s : State) :
    (s.err ≠ .noFault ∧ gennowWith K s = s) ∨
    (s.err = .noFault ∧ s.timestep = 0 ∧ gennowWith K s = raiseFault .timestep s) ∨
    (s.err = .noFault ∧ s.timestep ≠ 0 ∧ K < s.keyLen.toNat ∧ gennowWith K s = raiseFault .keyLen s) ∨
    (s.err = .noFault ∧ s.timestep ≠ 0 ∧ s.keyLen.toNat ≤ K ∧ ¬(1 ≤ s.digits.toNat ∧ s.digits.toNat ≤ 19) ∧
      gennowWith K s = raiseFault .digits s) ∨
    (s.err = .noFault ∧ s.timestep ≠ 0 ∧ s.keyLen.toNat ≤ K ∧ (1 ≤ s.digits.toNat ∧ s.digits.toNat ≤ 19) ∧
      (nextSample s).valid = false ∧ gennowWith K s = raiseFault .clock (drawSample s)) ∨
    (s.err = .noFault ∧ s.keyLen.toNat ≤ K ∧ (nextSample s).valid = true ∧
      ∃ (h : s.timestep ≠ 0) (r : 1 ≤ s.digits.toNat ∧ s.digits.toNat ≤ 19),
        gennowWith K s = generate { codeOperands s h r with time := (nextSample s).sec }
          { drawSample (resultsClear s) with time := (nextSample s).sec }) := by
  by_cases he : s.err = .noFault
  · rcases validateCode_cases K (resultsClear s) with ⟨ht, e⟩ | ⟨ht, hk, e⟩ | ⟨ht, hk, hr, e⟩ | ⟨hk, ht, hr, e⟩
    · exact .inr (.inl ⟨he, ht, by simp [gennowWith, he, e]⟩)
    · exact .inr (.inr (.inl ⟨he, ht, hk, by simp [gennowWith, he, e]⟩))
    · exact .inr (.inr (.inr (.inl ⟨he, ht, hk, hr, by simp [gennowWith, he, e]⟩)))
    · have e' : gennowWith K s = generateNow (codeOperands s ht hr) (resultsClear s) := by
        rw [gennowWith, if_neg (by simp [he]), e]; rfl
      by_cases hv : (nextSample s).valid = true
      · exact .inr (.inr (.inr (.inr (.inr ⟨he, hk, hv, ht, hr, by rw [e', generateNow, if_pos (by simpa using hv)]; rfl⟩))))
      · refine .inr (.inr (.inr (.inr (.inl ⟨he, ht, hk, hr, by simpa using hv, ?_⟩))))
        rw [e', generateNow, if_neg (by simpa using hv)]; rfl
  · exact .inl ⟨he, by simp [gennowWith, he]⟩

/-- Every command answers a next state. -/
theorem exec_eq_next (i : Instr) (s : State) : ∃ t, exec i s = .next t := by
  cases i <;> exact ⟨_, rfl⟩

end Sys2Proof.Machine
end

