-- ==== Sys2Proof/Laws/Memory.lean ====
section
/-! SUPPORT. Key memory: the canonical form is kept by every operation, and a read after a write. -/

namespace Sys2Proof.Machine

@[simp] theorem Memory.read_nil (i : Nat) : Memory.read [] i = 0 := rfl

theorem Memory.wf_nil : Memory.wf [] := by simp [Memory.wf]

theorem Memory.wf_reset : Memory.wf State.reset.key := Memory.wf_nil

theorem Memory.wf_tail {c : Host.Cell} {m : Memory} (h : Memory.wf (c :: m)) : Memory.wf m :=
  ⟨(List.pairwise_cons.mp h.1).2, fun d hd => h.2 d (List.mem_cons_of_mem _ hd)⟩

/-- An index below every listed one reads as unlisted. -/
theorem Memory.read_of_lt {m : Memory} {i : Nat} (h : ∀ c ∈ m, i < c.1) : Memory.read m i = 0 := by
  induction m with
  | nil => rfl
  | cons c m ih =>
    have hc : i < c.1 := h c (by simp)
    rw [Memory.read, if_neg (by omega)]
    exact ih fun d hd => h d (List.mem_cons_of_mem _ hd)

theorem Memory.mem_cons_cell {i : Nat} {b : Byte} {m : Memory} {c : Host.Cell} (h : c ∈ Memory.cons i b m) :
    c = (i, b) ∨ c ∈ m := by
  unfold Memory.cons at h
  split at h
  · exact .inr h
  · simpa using h

theorem Memory.cons_wf {i : Nat} {b : Byte} {m : Memory} (h : Memory.wf m) (hi : ∀ c ∈ m, i < c.1) :
    Memory.wf (Memory.cons i b m) := by
  unfold Memory.cons
  split
  · exact h
  · next hb => exact ⟨List.pairwise_cons.mpr ⟨hi, h.1⟩, by simpa using ⟨hb, fun j c hc => h.2 (j, c) hc⟩⟩

theorem Memory.read_cons {i j : Nat} {b : Byte} {m : Memory} (hi : ∀ c ∈ m, i < c.1) :
    Memory.read (Memory.cons i b m) j = if j = i then b else Memory.read m j := by
  unfold Memory.cons
  split
  · next hb =>
    split
    · next hj => rw [hj, Memory.read_of_lt hi, hb]; rfl
    · rfl
  · rw [Memory.read]; simp [eq_comm]

/-- A write lists no index but the old ones and its own. -/
theorem Memory.mem_write {m : Memory} {i : Nat} {b : Byte} {c : Host.Cell} (h : c ∈ Memory.write m i b) :
    c.1 = i ∨ c ∈ m := by
  induction m with
  | nil => rcases Memory.mem_cons_cell h with rfl | h' <;> simp_all
  | cons d m ih =>
    rw [Memory.write] at h
    split at h
    · rcases Memory.mem_cons_cell h with rfl | h' <;> simp_all
    · split at h
      · rcases Memory.mem_cons_cell h with rfl | h'
        · simp
        · exact .inr (List.mem_cons_of_mem _ h')
      · rcases List.mem_cons.mp h with rfl | h'
        · simp
        · exact (ih h').imp id (List.mem_cons_of_mem _)

/-- A write keeps the canonical form. -/
theorem Memory.write_wf {m : Memory} (h : Memory.wf m) (i : Nat) (b : Byte) : Memory.wf (Memory.write m i b) := by
  induction m with
  | nil => exact Memory.cons_wf h (by simp)
  | cons d m ih =>
    have hd := (List.pairwise_cons.mp h.1).1
    rw [Memory.write]
    split
    · next hi =>
      refine Memory.cons_wf h fun c hc => ?_
      rcases List.mem_cons.mp hc with rfl | hc
      · exact hi
      · exact lt_trans hi (hd c hc)
    · split
      · next hi => exact Memory.cons_wf (Memory.wf_tail h) fun c hc => hi ▸ hd c hc
      · next h1 h2 =>
        have ht := ih (Memory.wf_tail h)
        refine ⟨List.pairwise_cons.mpr ⟨fun c hc => ?_, ht.1⟩, fun c hc => ?_⟩
        · rcases Memory.mem_write hc with e | hc
          · simp only [e]; omega
          · exact hd c hc
        · rcases List.mem_cons.mp hc with rfl | hc
          · exact h.2 _ (by simp)
          · exact ht.2 c hc

/-- A read after a write: the byte written at its index, every other index as before. -/
theorem Memory.read_write {m : Memory} (h : Memory.wf m) (i j : Nat) (b : Byte) :
    Memory.read (Memory.write m i b) j = if j = i then b else Memory.read m j := by
  induction m with
  | nil => exact Memory.read_cons (by simp)
  | cons d m ih =>
    have hd := (List.pairwise_cons.mp h.1).1
    rw [Memory.write]
    split
    · next hi =>
      refine Memory.read_cons fun c hc => ?_
      rcases List.mem_cons.mp hc with rfl | hc
      · exact hi
      · exact lt_trans hi (hd c hc)
    · split
      · next hi =>
        rw [Memory.read_cons fun c hc => hi ▸ hd c hc]
        split
        · rfl
        · next hj => rw [Memory.read, if_neg (by omega)]
      · next h1 h2 =>
        rw [Memory.read, Memory.read, ih (Memory.wf_tail h)]
        by_cases e : d.1 = j
        · rw [if_pos e, if_pos e, if_neg (by omega)]
        · rw [if_neg e, if_neg e]

end Sys2Proof.Machine
end

