-- ==== Sys2Proof/Laws/PerInstr.lean ====
section
/-! SUPPORT. The statements made of every command as a term, one lemma per constructor: its encoding. -/

namespace Sys2Proof.Laws.Encoding

/-- A command is well formed and is one byte, 0x01 to 0x04, which the opcode table's numbering reads back as the command
(30_encoding.md R59, R60). -/
def Statement (i : Instr) : Prop :=
  i.wellFormed = true ∧ 1 ≤ (encode i).toNat ∧ (encode i).toNat ≤ 4 ∧ decodeTableWord 8 (encode i).toNat = some i

theorem sign : Statement .sign := by unfold Statement; decide

theorem genat : Statement .genat := by unfold Statement; decide

theorem gennow : Statement .gennow := by unfold Statement; decide

theorem clear : Statement .clear := by unfold Statement; decide

end Sys2Proof.Laws.Encoding
end

