-- ==== Sys2Proof/Laws/Port.lean ====
section
/-! SUPPORT. What a host event and a step can do, said once. -/

namespace Sys2Proof.Machine

/-- A command byte is a command or an illegal byte; either way there is a next state. -/
theorem command_cases (c : Byte) (s : State) :
    (∃ i, decode c = .instr i ∧ command c s = exec i s) ∨
    (decode c = .illegal ∧ command c s = .next (illegalCommand s)) := by
  unfold command
  cases h : decode c with
  | instr i => exact .inl ⟨i, rfl, rfl⟩
  | illegal => exact .inr ⟨rfl, rfl⟩

/-- An illegal byte: ignored while faulted, else ERR_CMD. -/
theorem illegalCommand_cases (s : State) :
    (s.err ≠ .noFault ∧ illegalCommand s = s) ∨ (s.err = .noFault ∧ illegalCommand s = raiseFault .cmd s) := by
  by_cases he : s.err = .noFault
  · exact .inr ⟨he, by simp [illegalCommand, he]⟩
  · exact .inl ⟨he, by simp [illegalCommand, he]⟩

/-- A host write that answers a next state ran a command or stored an operand register. -/
theorem hostWrite_cases {n : Byte} {v : Nat} {s t : State} (h : hostWrite n v s = .next t) :
    (locate n = some .cmd ∧ v < 2 ^ 8 ∧ command (BitVec.ofNat 8 v) s = .next t) ∨
    (∃ l, locate n = some l ∧ l ≠ .cmd ∧ l.hostWrites = true ∧ v < 2 ^ l.width ∧ t = writeOperand l v s) := by
  unfold hostWrite at h
  split at h
  · cases h
  · next l hl =>
    split at h
    · cases h
    · next hw =>
      split at h
      · cases h
      · next hv =>
        split at h
        · next hc => subst hc; exact .inl ⟨hl, by simpa [Loc.width] using hv, h⟩
        · next hc =>
          injection h with h
          exact .inr ⟨l, hl, hc, by simpa using hw, by omega, h.symm⟩

/-- What a host event that answers a next state did. -/
theorem perform_cases {ev : HostEvent} {s t : State} (h : perform ev s = .next t) :
    (∃ c, command c s = .next t ∧ (ev = .cmd c ∨ ∃ n v, ev = .wr n v ∧ locate n = some .cmd ∧ v < 2 ^ 8 ∧ c = BitVec.ofNat 8 v)) ∨
    (∃ n v l, ev = .wr n v ∧ locate n = some l ∧ l ≠ .cmd ∧ l.hostWrites = true ∧ v < 2 ^ l.width ∧ t = writeOperand l v s) ∨
    (∃ n l, ev = .rd n ∧ locate n = some l ∧ t = giveToHost (readLoc s l) s) ∨
    (∃ i b, ev = .wrk i b ∧ i < Config.keyMax ∧ b < 2 ^ 8 ∧ t = { s with key := Memory.write s.key i (BitVec.ofNat 8 b) }) ∨
    (∃ i, ev = .rdk i ∧ i < Config.keyMax ∧ t = giveToHost (.byte 0x00) s) ∨
    (ev = .rst ∧ t = resetCore s) := by
  cases ev with
  | wr n v =>
    rcases hostWrite_cases h with ⟨hl, hv, hc⟩ | ⟨l, hl⟩
    · exact .inl ⟨_, hc, .inr ⟨n, v, rfl, hl, hv, rfl⟩⟩
    · exact .inr (.inl ⟨n, v, l, rfl, hl⟩)
  | rd n =>
    simp only [perform, hostRead] at h
    split at h
    · cases h
    · next l hl => injection h with h; exact .inr (.inr (.inl ⟨n, l, rfl, hl, h.symm⟩))
  | wrk i b =>
    simp only [perform, hostWriteKey] at h
    split at h
    · cases h
    · split at h
      · cases h
      · injection h with h; exact .inr (.inr (.inr (.inl ⟨i, b, rfl, by omega, by omega, h.symm⟩)))
  | rdk i =>
    simp only [perform, hostReadKey] at h
    split at h
    · cases h
    · injection h with h; exact .inr (.inr (.inr (.inr (.inl ⟨i, rfl, by omega, h.symm⟩))))
  | cmd c => exact .inl ⟨c, h, .inl rfl⟩
  | rst => simp only [perform] at h; injection h with h; exact .inr (.inr (.inr (.inr (.inr ⟨rfl, h.symm⟩))))

/-- What a step that answers a next state did: nothing, or the oldest pending event. -/
theorem step_cases {s t : State} (h : step s = .next t) :
    (s.env.pending = [] ∧ t = s) ∨
    (∃ ev rest, s.env.pending = ev :: rest ∧ perform ev (withPending rest s) = .next t) := by
  unfold step takeEvent at h
  split at h
  · next hp => injection h with h; exact .inl ⟨hp, h.symm⟩
  · next ev rest hp => exact .inr ⟨ev, rest, hp, h⟩

end Sys2Proof.Machine
end

