-- ==== Sys2Proof/Tests/Slice0.lean ====
section
/-! SUPPORT. The model's own tests (expected values from 95_test_vectors.md and the examples of the rules), the smoke test of
WellFormed, and for each statement with hypotheses a named state that meets them. -/

namespace Sys2Proof.Tests

open Sys2Proof Sys2Proof.Machine

/-! ### WellFormed: one ill-formed term per check (20_memory.md R49), for a key memory of 256 bytes -/

theorem test_unmapped_write_is_ill_formed : HostEvent.wellFormed 256 (.wr 0x06 0) = false := by decide
theorem test_read_only_write_is_ill_formed : HostEvent.wellFormed 256 (.wr 0x01 0) = false := by decide
theorem test_wide_digits_is_ill_formed : HostEvent.wellFormed 256 (.wr 0x03 256) = false := by decide
theorem test_wide_keylen_is_ill_formed : HostEvent.wellFormed 256 (.wr 0x02 4294967296) = false := by decide
theorem test_unmapped_read_is_ill_formed : HostEvent.wellFormed 256 (.rd 0x53) = false := by decide
theorem test_key_write_out_of_range_is_ill_formed : HostEvent.wellFormed 256 (.wrk 256 0) = false := by decide
theorem test_wide_key_byte_is_ill_formed : HostEvent.wellFormed 256 (.wrk 0 256) = false := by decide
theorem test_key_read_out_of_range_is_ill_formed : HostEvent.wellFormed 256 (.rdk 256) = false := by decide
theorem test_boundary_events_are_well_formed :
    HostEvent.wellFormed 256 (.wr 0x03 255) = true ∧ HostEvent.wellFormed 256 (.rd 0x52) = true ∧
    HostEvent.wellFormed 256 (.wrk 255 255) = true ∧ HostEvent.wellFormed 256 (.rdk 0) = true ∧
    HostEvent.wellFormed 256 (.cmd 0xFF) = true := by decide
theorem test_commands_are_well_formed : Instr.sign.wellFormed = true ∧ Instr.clear.wellFormed = true := by decide

/-! ### Decoding: the words of 30_encoding.md R60, bit by bit -/

theorem test_decode_sign : decode 0b00000001 = .instr .sign := by decide
theorem test_decode_genat : decode 0b00000010 = .instr .genat := by decide
theorem test_decode_gennow : decode 0b00000011 = .instr .gennow := by decide
theorem test_decode_clear : decode 0b00000100 = .instr .clear := by decide
/-- 30_encoding.md R64: a command is one byte; no other length is placed, and a wider number is not cut. -/
theorem test_only_bytes_are_placed : State.reset.withFetchWord 16 0x01 = State.reset ∧
    State.reset.withFetchWord 1 0x04 = State.reset ∧ State.reset.withFetchWord 8 0x101 = State.reset ∧
    decodeTableWord 1 0x04 = none := by decide
theorem test_decode_illegal : decode 0b00000000 = .illegal ∧ decode 0b00000101 = .illegal ∧ decode 0b11111111 = .illegal := by
  decide

/-- R68's host program for a one-byte key, written as the tuples of R67. -/
theorem test_sign_program_tuples : ((signProgram [0x70] 30 1000).take 5).map hostTuple =
    [some ⟨true, .k, 0, some 0x70⟩, some ⟨true, .r, 0x02, some 1⟩, some ⟨true, .r, 0x04, some 30⟩,
     some ⟨true, .r, 0x05, some 1000⟩, some ⟨true, .r, 0x00, some 0x01⟩] := by decide

/-- R66: LDKEY of "ab", LDKEYREP, and the three read groups with the location numbers of 10_state.md R14. -/
theorem test_notation_expands :
    ldkey "ab" = [.wrk 0 0x61, .wrk 1 0x62, .wr 0x02 2] ∧ ldkeyrep 0xAA 2 = [.wrk 0 0xAA, .wrk 1 0xAA, .wr 0x02 2] ∧
    ldkey "" = [.wr 0x02 0] ∧ rdmsg.getLast? = some (.rd 0x17) ∧ rddigest.getLast? = some (.rd 0x33) ∧
    rdcode.head? = some (.rd 0x0C) ∧ rdcode.getLast? = some (.rd 0x52) := by decide

/-! ### The stages -/

/-- 40_counter_encoder.md R75: TIME 123456789, TIMESTEP 49. -/
theorem test_counter_bytes : (be8 (counterOf 123456789 49 (by decide))).toList = [0, 0, 0, 0, 0, 0x26, 0x71, 0xE6] := by decide

/-- 95_test_vectors.md section 4: padding of 55 and of 56 bytes. -/
theorem test_padding_boundary :
    (sha1Pad (List.replicate 55 0x61)).length = 64 ∧ (sha1Pad (List.replicate 56 0x61)).length = 128 ∧
    (sha1Pad (List.replicate 56 0x61)).drop 120 = [0, 0, 0, 0, 0, 0, 0x01, 0xC0] := by decide +kernel

/-- 41_sha1.md R83: schedule words of the one block of "abc". -/
theorem test_schedule_abc :
    ((schedule (zeroPad 64 (sha1Pad [0x61, 0x62, 0x63]))).drop 16).take 4 = [0xC2C4C700, 0, 0x30, 0x85898E01] := by decide +kernel

/-- 41_sha1.md R84: the first two rounds of "abc". -/
theorem test_rounds_abc : sha1Rounds 0 [0x61626380, 0] sha1IV =
    ⟨0x8990536D, 0x0116FC33, 0x59D148C0, 0x7BF36AE2, 0x98BADCFE⟩ := by decide +kernel

/-- 41_sha1.md R88: SHA1("abc"). -/
theorem test_sha1_abc : (sha1 [0x61, 0x62, 0x63]).toList =
    [0xA9, 0x99, 0x3E, 0x36, 0x47, 0x06, 0x81, 0x6A, 0xBA, 0x3E, 0x25, 0x71, 0x78, 0x50, 0xC2, 0x6C, 0x9C, 0xD0, 0xD8, 0x9D] := by
  decide +kernel

/-- 95_test_vectors.md section 5: a 65-byte key is hashed first. -/
theorem test_long_key_is_hashed :
    ((hmacKeyBlock ((List.range 65).map (BitVec.ofNat 8))).toList.take 4) = [0x69, 0xBD, 0x72, 0x8A] ∧
    (hmacKeyBlock ((List.range 64).map (BitVec.ofNat 8))).toList.drop 62 = [0x3E, 0x3F] := by decide +kernel

/-- 95_test_vectors.md section 6, T6: only the first window byte is masked, and offset 15 reads bytes 15 to 18. -/
theorem test_truncation_T6 :
    dtCode31 (zeroPad 20 (List.replicate 15 0x11 ++ [0xDE, 0xAD, 0xBE, 0xEF, 0xFF])) = 0x5EADBEEF := by decide +kernel

/-- 95_test_vectors.md section 6, T4: the high nibble of the last byte is ignored. -/
theorem test_truncation_T4 :
    dtCode31 (zeroPad 20 ((List.range 19).map (fun i => BitVec.ofNat 8 (0x10 + i)) ++ [0xF0])) = 0x10111213 := by decide +kernel

/-- 95_test_vectors.md V3: render(909, 6) = "000909", then zero bytes. -/
theorem test_render_909 : (codeString 909 6).toList.take 7 = [0x30, 0x30, 0x30, 0x39, 0x30, 0x39, 0x00] := by decide

/-- 95_test_vectors.md section 7: 2147483647 in nine digits. -/
theorem test_reduce_nine : reduceCode 2147483647 9 (by decide) = 147483647 := by decide

/-! ### One step of each command -/

/-- "potato" loaded (95_test_vectors.md P1). -/
def potato : State :=
  { State.reset with
    keyLen := 6, digits := 6, timestep := 30, time := 1000
    key := [(0, 0x70), (1, 0x6F), (2, 0x74), (3, 0x61), (4, 0x74), (5, 0x6F)] }

/-- V1's digest, by SIGN (42_hmac_sign.md R98's example). -/
theorem test_sign_potato : (signWith 256 potato).digest.toList =
    [0xEE, 0xC9, 0xEC, 0x5B, 0x18, 0xDC, 0x63, 0xDB, 0x69, 0xD4, 0x00, 0x66, 0x0D, 0x01, 0x41, 0x42, 0x91, 0x87, 0x21, 0x12] := by
  decide +kernel

/-- 60_exceptions.md R133's example: SIGN straight after reset leaves STATUS 0x02. -/
theorem test_sign_after_reset : step (State.reset.withFetchWord 8 0x01) = .next (faulted .timestep State.reset) ∧
    statusWord (faulted .timestep State.reset) = 0x02 := ⟨rfl, by decide⟩

/-- V2: "tomato", 7 digits, timestep 49 gives "8759068". -/
theorem test_genat_tomato : (codeText (genatWith 256
    { State.reset with
      keyLen := 6, digits := 7, timestep := 49, time := 123456789
      key := [(0, 0x74), (1, 0x6F), (2, 0x6D), (3, 0x61), (4, 0x74), (5, 0x6F)] })) =
    [0x38, 0x37, 0x35, 0x39, 0x30, 0x36, 0x38] := by
  decide +kernel

/-- 95_test_vectors.md section 8: KEYLEN = 257 with KEY_MAX = 256 is the first illegal length, before DIGITS. -/
theorem test_genat_key_too_long : genatWith 256 { State.reset with timestep := 1, keyLen := 257 } =
    faulted .keyLen { State.reset with timestep := 1, keyLen := 257 } := by decide +kernel

/-- P4: the sample (1, 2000000000) gives offset 15 and "69279037", and is left in TIME. -/
theorem test_gennow_offset_fifteen :
    let t := gennowWith 256
      { State.reset with
        keyLen := 20, digits := 8, timestep := 30, time := 7
        key := (List.range 20).map fun i => (i, BitVec.ofNat 8 (0x30 + (i + 1) % 10))
        env := { Env.empty with clockSamples := [⟨true, 2000000000⟩] } }
    t.offset = 0x0F ∧ t.codeVal = 69279037 ∧ t.time = 2000000000 ∧ t.env.clockSamples = [] := by
  decide +kernel

/-- P4: the sample (0, 123) faults with code 5 and leaves TIME. -/
theorem test_gennow_dead_clock :
    let t := gennowWith 256
      { State.reset with digits := 8, timestep := 30, time := 7, env := { Env.empty with clockSamples := [⟨false, 123⟩] } }
    statusWord t = 0x05 ∧ t.time = 7 := by
  decide +kernel

/-- 45_commands.md R122: CLEAR on a faulted, loaded core gives the reset state. -/
theorem test_clear_faulted : step (State.withFetchWord { potato with err := .digits } 8 0x04) = .next State.reset := rfl

/-- 60_exceptions.md R132's example: `CMD 0x00` on a fresh core leaves STATUS 0x01. -/
theorem test_illegal_after_reset : step (State.reset.withFetchWord 8 0x00) = .next (faulted .cmd State.reset) := rfl

/-- 95_test_vectors.md section 9: a write to STATUS and a read of location 0x06 have no step. -/
theorem test_refused_accesses : hostWrite 0x01 0 State.reset = .refused (.readOnlyLocation 0x01) ∧
    hostRead 0x06 State.reset = .fault (.unmappedLocation 0x06) ∧
    hostWrite 0x03 256 State.reset = .refused (.valueTooWide 0x03 256) := ⟨rfl, rfl, rfl⟩

/-- 20_memory.md R46: a zero byte written over a listed one leaves the canonical form. -/
theorem test_key_write_zero : Memory.write [(0, 0x70), (1, 0x6F)] 0 0x00 = [(1, 0x6F)] := by decide

/-! ### Witnesses: the hypotheses of each statement are met -/

/-- An accepted set of operands with the empty key (42_hmac_sign.md R96) and one valid clock sample. -/
def ready : State :=
  { State.reset with digits := 19, timestep := 30, time := 1000, env := { Env.empty with clockSamples := [⟨true, 59⟩] } }

/-- The same with a dead clock. -/
def deadClock : State := { ready with env := { Env.empty with clockSamples := [⟨false, 0⟩] } }

/-- A faulted core with one event to come. -/
def faultedWith (ev : HostEvent) : State :=
  { State.reset with err := .timestep, env := { Env.empty with pending := [ev] } }

theorem ready_accepted : ready.err = .noFault ∧ ready.timestep ≠ 0 ∧ ready.keyLen.toNat ≤ Config.keyMax ∧
    1 ≤ ready.digits.toNat ∧ ready.digits.toNat ≤ 19 ∧ (nextSample ready).valid = true :=
  ⟨rfl, by decide, Nat.zero_le _, by decide, by decide, rfl⟩

/-- A state other than reset that meets the invariant. -/
theorem ready_inv : CoreInv ready :=
  ⟨by decide, by decide, ⟨rfl, rfl, rfl⟩, ⟨rfl, rfl, rfl, rfl, rfl⟩, Memory.wf_nil, by simp [ready, State.reset], rfl, rfl⟩

theorem witness_CommandBytesDecodeTotally :
    ((0x00 : Byte) = 0x00 ∨ 0x05 ≤ (0x00 : Byte).toNat) ∧ ((0x05 : Byte) = 0x00 ∨ 0x05 ≤ (0x05 : Byte).toNat) ∧
    ((0xFF : Byte) = 0x00 ∨ 0x05 ≤ (0xFF : Byte).toNat) ∧ ready.err = .noFault ∧ (faultedWith .rst).err ≠ .noFault := by decide

theorem witness_StepRunsTheDecodedCommand : decode 0x01 = .instr .sign ∧
    (withPending [.cmd 0x01] ready).env.pending = .cmd 0x01 :: [] ∧
    (withPending [.wr 0x00 1] ready).env.pending = .wr 0x00 (0x01 : Byte).toNat :: [] := by decide

theorem witness_StepWithNothingPendingIsIdle : State.reset.env.pending = [] := rfl

theorem witness_WellFormedEventsAlwaysStep :
    (withPending [.cmd 0x02] ready).env.pending = .cmd 0x02 :: [] ∧ (HostEvent.cmd 0x02).wellFormed Config.keyMax = true ∧
    (withPending [.rd 0x06] ready).env.pending = .rd 0x06 :: [] ∧ (HostEvent.rd 0x06).wellFormed Config.keyMax = false :=
  ⟨rfl, rfl, rfl, rfl⟩

theorem witness_StepTakesOneEvent : (withPending [.cmd 0x04, .rst] ready).env.pending = .cmd 0x04 :: [.rst] ∧
    step (withPending [.cmd 0x04, .rst] ready) = .next (resetCore (withPending [.rst] ready)) := ⟨rfl, rfl⟩

theorem witness_StatusValuesAreLegal : CoreInv ready := ready_inv

theorem witness_SignCompletes : ready.err = .noFault ∧ ready.timestep ≠ 0 ∧ ready.keyLen.toNat ≤ Config.keyMax :=
  ⟨ready_accepted.1, ready_accepted.2.1, ready_accepted.2.2.1⟩

theorem witness_SignAndGenatFrame : (Instr.sign = .sign ∨ Instr.sign = .genat) ∧
    (∃ t, exec .sign ready = .next t) ∧ ∃ t, exec .genat ready = .next t := ⟨.inl rfl, ⟨_, rfl⟩, ⟨_, rfl⟩⟩

theorem witness_GenatCompletes : ready.err = .noFault ∧ ready.timestep ≠ 0 ∧ ready.keyLen.toNat ≤ Config.keyMax ∧
    1 ≤ ready.digits.toNat ∧ ready.digits.toNat ≤ 19 :=
  ⟨ready_accepted.1, ready_accepted.2.1, ready_accepted.2.2.1, ready_accepted.2.2.2.1, ready_accepted.2.2.2.2.1⟩

theorem witness_GennowCompletes : ready.err = .noFault ∧ ready.timestep ≠ 0 ∧ ready.keyLen.toNat ≤ Config.keyMax ∧
    1 ≤ ready.digits.toNat ∧ ready.digits.toNat ≤ 19 ∧ (nextSample ready).valid = true := ready_accepted

theorem witness_GennowFrame : ∃ t, exec .gennow ready = .next t := ⟨_, rfl⟩

/-- A good GENNOW on `ready`. -/
theorem gennow_ready_good : exec .gennow ready = .next (gennowWith Config.keyMax ready) ∧
    (gennowWith Config.keyMax ready).err = .noFault := by
  refine ⟨rfl, ?_⟩
  rcases gennowWith_cases Config.keyMax ready with h | h | h | h | h | ⟨_, _, _, ht, r, e⟩
  · exact absurd rfl h.1
  · exact absurd h.2.1 (by decide)
  · exact absurd h.2.2.1 (Nat.not_lt_zero _)
  · exact absurd (by decide) h.2.2.2.1
  · exact absurd h.2.2.2.2.1 (by decide)
  · rw [e]; rfl

theorem witness_GennowEqualsTimeWriteThenGenat : ∃ t, exec .gennow ready = .next t ∧ ready.err = .noFault ∧ t.err = .noFault :=
  ⟨_, gennow_ready_good.1, rfl, gennow_ready_good.2⟩

/-- A good GENAT on `ready`. -/
theorem genat_ready_good : exec .genat ready = .next (genatWith Config.keyMax ready) ∧
    (genatWith Config.keyMax ready).err = .noFault := by
  refine ⟨rfl, ?_⟩
  rcases genatWith_cases Config.keyMax ready with h | h | h | h | ⟨_, _, ht, r, e⟩
  · exact absurd rfl h.1
  · exact absurd h.2.1 (by decide)
  · exact absurd h.2.2.1 (Nat.not_lt_zero _)
  · exact absurd (by decide) h.2.2.2.1
  · rw [e]; rfl

theorem witness_GenatAndSignAgreeOnTheDigest : ∃ a b, exec .sign ready = .next a ∧ exec .genat ready = .next b ∧
    ready.err = .noFault ∧ b.err = .noFault := ⟨_, _, rfl, genat_ready_good.1, rfl, genat_ready_good.2⟩

theorem witness_CommandsAreDeterminedByTheirOperands :
    let s := ready
    let t := { ready with key := [(7, 0x61)], counter := 5 }
    s.err = .noFault ∧ t.err = .noFault ∧ s.keyLen = t.keyLen ∧ s.timestep = t.timestep ∧ s.time = t.time ∧
    (∀ i, i < s.keyLen.toNat → Memory.read s.key i = Memory.read t.key i) ∧ s.digits = t.digits ∧
    (∃ a b, exec .sign s = .next a ∧ exec .sign t = .next b) ∧ ∃ a b, exec .genat s = .next a ∧ exec .genat t = .next b :=
  ⟨rfl, rfl, rfl, rfl, rfl, fun _ h => absurd h (Nat.not_lt_zero _), rfl, ⟨_, _, rfl, rfl⟩, ⟨_, _, rfl, rfl⟩⟩

/-- The GENNOW clause, with two old values of TIME and a run that ends good. -/
theorem witness_CommandsAreDeterminedByTheirOperands_gennow :
    let s := ready
    let t := { ready with key := [(7, 0x61)], time := 5 }
    s.err = .noFault ∧ t.err = .noFault ∧ s.keyLen = t.keyLen ∧ s.timestep = t.timestep ∧ s.time ≠ t.time ∧
    (∀ i, i < s.keyLen.toNat → Memory.read s.key i = Memory.read t.key i) ∧ nextSample s = nextSample t ∧ s.digits = t.digits ∧
    ∃ a b, exec .gennow s = .next a ∧ exec .gennow t = .next b ∧ a.err = .noFault :=
  ⟨rfl, rfl, rfl, rfl, by decide, fun _ h => absurd h (Nat.not_lt_zero _), rfl, rfl, _, _, gennow_ready_good.1, rfl,
    gennow_ready_good.2⟩

/-- 95_test_vectors.md V6: the times 990 and 1019 are in one window of 30 seconds. -/
theorem witness_OneWindowGivesOneCode : ready.err = .noFault ∧ ready.timestep ≠ 0 ∧
    (990 : Word64).toNat / ready.timestep.toNat = (1019 : Word64).toNat / ready.timestep.toNat ∧
    (∃ a b, exec .sign { ready with time := 990 } = .next a ∧ exec .sign { ready with time := 1019 } = .next b) ∧
    ∃ a b, exec .genat { ready with time := 990 } = .next a ∧ exec .genat { ready with time := 1019 } = .next b :=
  ⟨rfl, by decide, by decide, ⟨_, _, rfl, rfl⟩, ⟨_, _, rfl, rfl⟩⟩

theorem witness_SignAndGenatAreIdempotent : (∃ t, exec .sign ready = .next t) ∧ ∃ t, exec .genat ready = .next t :=
  ⟨⟨_, rfl⟩, ⟨_, rfl⟩⟩

theorem witness_ZeroTimestepFaults : Instr.sign ≠ .clear ∧ Instr.genat ≠ .clear ∧ Instr.gennow ≠ .clear ∧
    State.reset.err = .noFault ∧ State.reset.timestep = 0 := by decide

theorem witness_KeyLongerThanKeyMemoryFaults :
    let s := { ready with keyLen := 257 }
    s.err = .noFault ∧ s.timestep ≠ 0 ∧ 256 < s.keyLen.toNat := by decide

theorem witness_DigitsOutOfRangeFaults :
    let s := { ready with digits := 0 }
    let t := { ready with digits := 20 }
    s.err = .noFault ∧ s.timestep ≠ 0 ∧ s.keyLen.toNat ≤ Config.keyMax ∧ (s.digits = 0 ∨ 20 ≤ s.digits.toNat) ∧
    t.err = .noFault ∧ t.timestep ≠ 0 ∧ t.keyLen.toNat ≤ Config.keyMax ∧ (t.digits = 0 ∨ 20 ≤ t.digits.toNat) :=
  ⟨rfl, by decide, Nat.zero_le _, by decide, rfl, by decide, Nat.zero_le _, by decide⟩

theorem witness_InvalidClockSampleFaults : deadClock.err = .noFault ∧ deadClock.timestep ≠ 0 ∧
    deadClock.keyLen.toNat ≤ Config.keyMax ∧ 1 ≤ deadClock.digits.toNat ∧ deadClock.digits.toNat ≤ 19 ∧
    (nextSample deadClock).valid = false := ⟨rfl, by decide, Nat.zero_le _, by decide, by decide, rfl⟩

theorem witness_FirstFaultInPriorityIsReported : State.reset.err = .noFault ∧
    exec .gennow State.reset = .next (faulted .timestep State.reset) ∧ ready.err = .noFault ∧ (∃ t, exec .gennow ready = .next t) ∧
    (∃ t, exec .genat ready = .next t) ∧ (∃ t, exec .sign ready = .next t) ∧ decode 0x00 = .illegal ∧
    ∃ t, perform (.cmd 0x00) ready = .next t := ⟨rfl, rfl, rfl, ⟨_, rfl⟩, ⟨_, rfl⟩, ⟨_, rfl⟩, by decide, ⟨_, rfl⟩⟩

theorem witness_FaultedCoreIgnoresCommands : (faultedWith .rst).err ≠ .noFault ∧ (0x01 : Byte) ≠ 0x04 ∧ (0x7F : Byte) ≠ 0x04 := by
  decide

theorem witness_FaultsAreStickyAndDoNotNest :
    (faultedWith (.cmd 0x04)).err ≠ .noFault ∧ step (faultedWith (.cmd 0x04)) = .next State.reset ∧
    (faultedWith .rst).err ≠ .noFault ∧ step (faultedWith .rst) = .next State.reset ∧
    (faultedWith (.wr 0x00 4)).err ≠ .noFault ∧ step (faultedWith (.wr 0x00 4)) = .next State.reset ∧
    ∃ t, step (faultedWith (.cmd 0x00)) = .next t ∧ t.err = .timestep :=
  ⟨by decide, rfl, by decide, rfl, by decide, rfl, _, rfl, rfl⟩

theorem witness_FaultsArePrecise : State.reset.err = .noFault ∧
    perform (.cmd 0x01) State.reset = .next (faulted .timestep State.reset) ∧ (faulted .timestep State.reset).err ≠ .noFault :=
  ⟨rfl, rfl, by decide⟩

theorem witness_OperandWriteTakesTheWholeValue : 4294967295 < 2 ^ 32 ∧ 255 < 2 ^ 8 ∧ 18446744073709551615 < 2 ^ 64 := by decide

theorem witness_KeyWriteStoresOneByte : Memory.wf potato.key ∧ 0 < 256 ∧ 255 ≤ 255 ∧ 255 < 256 ∧ 0 ≤ 255 :=
  ⟨by decide, by decide, by decide, by decide, by decide⟩

theorem witness_HostWritesAreIdempotent : Memory.wf potato.key ∧
    hostWriteKey 256 255 0x01 potato = .next { potato with key := potato.key ++ [(255, 0x01)] } ∧
    (0x04 : Byte) ≠ 0x00 ∧ hostWrite 0x04 30 potato = .next potato := ⟨by decide, rfl, by decide, rfl⟩

theorem witness_EqualKeyBytesAreEqualData : Memory.wf potato.key ∧
    ∀ i, Memory.read potato.key i = Memory.read potato.key i := ⟨by decide, fun _ => rfl⟩

theorem witness_KeyReadReturnsZero : 0 < 256 ∧ 255 < 256 := by decide

theorem witness_SecretIsTheFirstKeyLenBytes : 5 < potato.keyLen.toNat := by decide

theorem witness_ClearAndResetLeaveTheOutsideAlone : exec .clear ready = .next (resetCore ready) ∧
    perform .rst ready = .next (resetCore ready) := ⟨rfl, rfl⟩

theorem witness_OnlyClearResetAndKeyWritesChangeTheKey :
    perform .rst potato = .next State.reset ∧ State.reset.key ≠ potato.key ∧
    perform (.cmd 0x04) potato = .next State.reset ∧ perform (.wr 0x00 4) potato = .next State.reset := ⟨rfl, by decide, rfl, rfl⟩

theorem witness_KeyBytesShowOnlyInTheNamedRegisters :
    withoutKey potato = withoutKey { potato with key := [(0, 0x61)] } ∧ readsKeyResult (.cmd 0x02) = false ∧
    readsKeyResult (.rd 0x0C) = false ∧ readsKeyResult (.rd 0x20) = true := ⟨rfl, by decide, by decide, by decide⟩

theorem witness_CounterIsTheFloorQuotient : (30 : Word64) ≠ 0 ∧ (18446744073709551615 : Word64) ≠ 0 := by decide

theorem witness_PaddingFillsWholeBlocks : (55 + 1 + 0 + 8) % 64 = 0 ∧ (56 + 1 + 63 + 8) % 64 = 0 := by decide

theorem witness_ScheduleFollowsItsRecurrence : 16 ≤ 16 ∧ 16 < 80 ∧ 16 ≤ 79 ∧ 79 < 80 ∧ (0 < 1 ∧ 1 < 32) ∧ 0 < 31 ∧ 31 < 32 := by
  decide

/-- A boundary value for each range of `t` (41_sha1.md R81, R82), a bit, and a whole number of blocks. -/
theorem witness_DigestBytesOfTheChainingValue : 31 < 32 ∧ 19 ≤ 19 ∧ (20 ≤ 39 ∧ (39 ≤ 39 ∨ 60 ≤ 39) ∧ 39 ≤ 79) ∧
    (20 ≤ 79 ∧ (79 ≤ 39 ∨ 60 ≤ 79) ∧ 79 ≤ 79) ∧ (40 ≤ 40 ∧ 40 ≤ 59) ∧ (40 ≤ 59 ∧ 59 ≤ 59) ∧ (60 ≤ 60 ∧ 60 ≤ 79) ∧
    (List.replicate 128 (0 : Byte)).length % 64 = 0 := by simp

theorem witness_KeyBlockHashesOnlyLongKeys : 64 < (List.replicate 65 (0 : Byte)).length ∧
    (List.replicate 64 (0 : Byte)).length ≤ 64 ∧ ([] : List Byte).length ≤ 64 := by decide

/-- Two digests that differ only in the high nibble of the last byte. -/
theorem witness_OffsetIsTheLowNibbleOfTheLastByte :
    let d : Vector Byte 20 := zeroPad 20 (List.replicate 19 0x21 ++ [0x37])
    let e : Vector Byte 20 := zeroPad 20 (List.replicate 19 0x21 ++ [0xF7])
    (∀ i : Fin 19, d[i.val] = e[i.val]) ∧ d[19] &&& 0x0F#8 = e[19] &&& 0x0F#8 ∧ d ≠ e := by decide +kernel

theorem witness_TruncationReadsTheWindowBigEndian :
    let d : Vector Byte 20 := zeroPad 20 (List.replicate 20 0xFF)
    [0xFF, 0xFF, 0xFF, 0xFF] = (d.toList.drop (dtOffset d).toNat).take 4 := by decide +kernel

theorem witness_LargeDigitCountsKeepTheWholeInteger : (1 ≤ 19 ∧ 19 ≤ 19) ∧ (2147483647 : Word32).toNat < 2 ^ 31 ∧ 10 ≤ 19 ∧
    (0 : Fin 19).val < 19 - 10 := by decide

theorem witness_RenderedStringReadsBackAsTheValue : 1 ≤ 6 ∧ 6 ≤ 19 ∧ (999999 : Word64).toNat < 10 ^ 6 := by decide

theorem witness_CodeHasExactlyDigitsCharacters : ∃ t, ready.err = .noFault ∧
    (exec .genat ready = .next t ∨ exec .gennow ready = .next t) ∧ t.err = .noFault :=
  ⟨_, rfl, .inl genat_ready_good.1, genat_ready_good.2⟩

theorem witness_EveryStepKeepsTheInvariant : CoreInv (withPending [.cmd 0x01] ready) ∧
    ∃ t, step (withPending [.cmd 0x01] ready) = .next t :=
  ⟨⟨ready_inv.code_sign, ready_inv.fault_flags, ready_inv.sign_results, ready_inv.code_results, ready_inv.key_wf,
    ready_inv.key_bound, ready_inv.hidden⟩, ⟨_, rfl⟩⟩

end Sys2Proof.Tests
end

section
/-! Proofs of the family 20_memory.md: the accepted host writes, of an operand register (R44) and of a key byte (R46). -/

namespace Sys2Proof.Machine

/-- A host write the port accepts, to a location other than CMD, stores the value (20_memory.md R44). -/
theorem hostWrite_eq_next {n : Byte} {l : Loc} {v : Nat} (s : State) (hl : locate n = some l) (hc : l ≠ .cmd)
    (hw : l.hostWrites = true) (hv : v < 2 ^ l.width) : hostWrite n v s = .next (writeOperand l v s) := by
  simp only [hostWrite, hl]
  rw [if_neg (by simp [hw]), if_neg (by omega), if_neg hc]

/-- A key write the port accepts, for a key memory of `K` bytes (20_memory.md R46). -/
theorem hostWriteKey_eq_next {K i b : Nat} (s : State) (hi : i < K) (hb : b < 2 ^ 8) :
    hostWriteKey K i b s = .next { s with key := Memory.write s.key i (BitVec.ofNat 8 b) } := by
  rw [hostWriteKey, if_neg (by omega), if_neg (by omega)]

/-- Settles O36: each operand register is mapped, writable and not CMD, so the port stores the value in it. -/
theorem operandWriteTakesTheWholeValue : Obligations.OperandWriteTakesTheWholeValue := by
  intro s v
  refine ⟨fun hv => ?keyLen, fun hv => ?digits, fun hv => ?timestep, fun hv => ?time⟩
  case keyLen => exact hostWrite_eq_next (n := 0x02) (l := .keyLen) s (by decide) (by decide) rfl hv
  case digits => exact hostWrite_eq_next (n := 0x03) (l := .digits) s (by decide) (by decide) rfl hv
  case timestep => exact hostWrite_eq_next (n := 0x04) (l := .timestep) s (by decide) (by decide) rfl hv
  case time => exact hostWrite_eq_next (n := 0x05) (l := .time) s (by decide) (by decide) rfl hv

/-- Settles O39: the memory written is `Memory.write`'s, and `Memory.read_write` says what every index of it reads. -/
theorem keyWriteStoresOneByte : Obligations.KeyWriteStoresOneByte := by
  refine ⟨fun K i b s hwf hi hb => ?_, fun i b s => rfl⟩
  have hfits : b < 2 ^ 8 := by omega
  refine ⟨_, hostWriteKey_eq_next s hi hfits, ?written, fun j hj => ?kept⟩
  case written => rw [Memory.read_write hwf, if_pos rfl, BitVec.toNat_ofNat, Nat.mod_eq_of_lt hfits]
  case kept => rw [Memory.read_write hwf, if_neg hj]

end Sys2Proof.Machine
end

section
/-! Proofs of the family 30_encoding.md: the decoder as the inverse of the opcodes (R60, R62, R64), and what an illegal byte does
in both forms of the transaction (R59, R62). -/

namespace Sys2Proof

/-- A byte decodes to a command exactly when it is its opcode (30_encoding.md R60, R62). -/
theorem decode_eq_instr_iff {c : Byte} {i : Instr} : decode c = .instr i ↔ encode i = c := by
  constructor
  · intro h
    simp only [decode] at h
    split_ifs at h with hsign hgenat hgennow hclear <;> cases h
    exacts [hsign.symm, hgenat.symm, hgennow.symm, hclear.symm]
  · rintro rfl
    cases i <;> rfl

/-- What Laws.Encoding says of each command, for any command. -/
theorem encoding_statement (i : Instr) : Laws.Encoding.Statement i := by
  cases i
  exacts [Laws.Encoding.sign, Laws.Encoding.genat, Laws.Encoding.gennow, Laws.Encoding.clear]

/-- Every byte that is no opcode is ILLEGAL (30_encoding.md R62). -/
theorem decode_eq_illegal {c : Byte} (hc : c = 0x00 ∨ 0x05 ≤ c.toNat) : decode c = .illegal := by
  cases hd : decode c with
  | illegal => rfl
  | instr i =>
    obtain ⟨-, hpos, hle, -⟩ := encoding_statement i
    rw [decode_eq_instr_iff.mp hd] at hpos hle
    rcases hc with rfl | hc
    · exact absurd hpos (by decide)
    · omega

/-- A table word is a command when it is one byte that decodes to it (30_encoding.md R64). -/
theorem decodeTableWord_eq_some_iff {nbits w : Nat} {i : Instr} :
    decodeTableWord nbits w = some i ↔ nbits = 8 ∧ w < 2 ^ 8 ∧ decode (BitVec.ofNat 8 w) = .instr i := by
  unfold decodeTableWord
  split
  case isTrue h =>
    have hbyte : w < 256 := h.2
    cases decode (BitVec.ofNat 8 w) <;> simp [h.1, hbyte]
  case isFalse h => simp only [reduceCtorEq, false_iff]; tauto

/-- Settles O2: `decode` inverts `encode`, and a word below 256 is the byte it numbers. -/
theorem encodeDecodeAgree : Obligations.EncodeDecodeAgree := by
  refine ⟨fun i c => decode_eq_instr_iff, fun nbits w i => ?_⟩
  rw [decodeTableWord_eq_some_iff, decode_eq_instr_iff]
  constructor
  · rintro ⟨hn, hw, he⟩
    exact ⟨hn, by rw [he, BitVec.toNat_ofNat, Nat.mod_eq_of_lt hw]⟩
  · rintro ⟨hn, rfl⟩
    exact ⟨hn, (encode i).isLt, by rw [BitVec.ofNat_toNat, BitVec.setWidth_eq]⟩

end Sys2Proof

namespace Sys2Proof.Machine

/-- The write of a byte to location 0x00 is the command of that byte (20_memory.md R42). -/
theorem hostWrite_cmd (c : Byte) (s : State) : hostWrite 0x00 c.toNat s = command c s := by
  have hfits : ¬ 2 ^ Loc.cmd.width ≤ c.toNat := Nat.not_le.mpr c.isLt
  have hl : locate 0x00 = some .cmd := by decide
  simp only [hostWrite, hl, Loc.hostWrites, hfits, if_true, if_false, Bool.true_eq_false, BitVec.ofNat_toNat,
    BitVec.setWidth_eq]

/-- Fault entry leaves the fields that `faulted` writes out (60_exceptions.md R140). -/
theorem raiseFault_eq_faulted (e : Err) (s : State) : raiseFault e s = faulted e s := rfl

/-- An illegal byte always completes: ERR_CMD with no fault latched, nothing otherwise (30_encoding.md R62). -/
theorem command_of_illegal {c : Byte} (hc : decode c = .illegal) (s : State) :
    command c s = .next (if s.err = .noFault then faulted .cmd s else s) := by
  have hcommand : command c s = .next (illegalCommand s) := by simp only [command, hc]
  rcases illegalCommand_cases s with ⟨he, hs⟩ | ⟨he, hs⟩
  · rw [hcommand, hs, if_neg he]
  · rw [hcommand, hs, if_pos he, raiseFault_eq_faulted]

/-- Settles O1: the four opcodes decode to their commands and the other bytes to ILLEGAL; both forms run `command`. -/
theorem commandBytesDecodeTotally : Obligations.CommandBytesDecodeTotally := by
  refine ⟨rfl, rfl, rfl, rfl, fun c => decode_eq_illegal, fun c s hc => ?illegal, hostWrite_cmd⟩
  have hcmd := command_of_illegal (decode_eq_illegal hc) s
  exact ⟨hcmd, (hostWrite_cmd c s).trans hcmd⟩

end Sys2Proof.Machine
end

section
/-! Proofs of the family 40_counter_encoder.md: the counter as a floor quotient (R72) and its eight bytes (R74). -/

namespace Sys2Proof.Machine

/-- A last byte appended is the least significant one (00_scope.md R10). -/
theorem beVal_append_singleton (m : List Byte) (b : Byte) : beVal (m ++ [b]) = beVal m * 256 + b.toNat := by
  simp [beVal]

/-- A byte before the last of `BE_(n+1)(v)` is the byte of `BE_n(v div 256)` at the same place (00_scope.md R10). -/
theorem beByte_succ_of_lt {n i : Nat} (v : Nat) (h : i < n) : beByte (n + 1) v i = beByte n (v / 256) i := by
  have hshift : 8 * (n + 1 - 1 - i) = 8 + 8 * (n - 1 - i) := by omega
  rw [beByte, beByte, hshift, Nat.pow_add, ← Nat.div_div_eq_div_mul]

/-- `BE_(n+1)(v)` is `BE_n(v div 256)` followed by the low byte of `v`. -/
theorem toList_beBytes_succ (n v : Nat) :
    (beBytes (n + 1) v).toList = (beBytes n (v / 256)).toList ++ [beByte (n + 1) v n] := by
  rw [beBytes, beBytes, Vector.toList_ofFn, Vector.toList_ofFn, List.ofFn_succ_last]
  simp [beByte_succ_of_lt]

/-- `be_val` reads `BE_n(v)` back as `v` modulo `256^n` (00_scope.md R10). -/
theorem beVal_beBytes (n v : Nat) : beVal (beBytes n v).toList = v % 256 ^ n := by
  induction n generalizing v with
  | zero => rw [Nat.pow_zero, Nat.mod_one]; rfl
  | succ n ih =>
    have hlast : (beByte (n + 1) v n).toNat = v % 256 := by simp [beByte_toNat]
    rw [toList_beBytes_succ, beVal_append_singleton, ih, hlast, Nat.pow_succ', Nat.mod_mul]
    omega

/-- The quotient fits 64 bits, so the counter is it exactly (40_counter_encoder.md R72). -/
theorem counterOf_toNat (x d : Word64) (h : d ≠ 0) : (counterOf x d h).toNat = x.toNat / d.toNat := by
  have hfits : x.toNat / d.toNat < 2 ^ 64 := (Nat.div_le_self _ _).trans_lt x.isLt
  rw [counterOf, BitVec.toNat_ofNat, Nat.mod_eq_of_lt hfits]

/-- Settles O47: `beByte_toNat` is the rule for one byte, and `be_val` gives back the counter, which is below `256^8`. -/
theorem counterBytesAreBigEndian : Obligations.CounterBytesAreBigEndian := by
  refine fun c => ⟨fun i => ?byte, ?readBack⟩
  case byte =>
    have hget : (be8 c)[i] = beByte 8 c.toNat i := beBytes_get 8 c.toNat i i.isLt
    rw [hget, beByte_toNat]
  case readBack =>
    have hfits : c.toNat < 256 ^ 8 := c.isLt
    rw [be8, beVal_beBytes, Nat.mod_eq_of_lt hfits]

/-- Settles O46: the counter is the quotient, and a quotient is at most its dividend. -/
theorem counterIsTheFloorQuotient : Obligations.CounterIsTheFloorQuotient := by
  intro x d h
  rw [counterOf_toNat]
  exact ⟨rfl, Nat.div_le_self _ _⟩

end Sys2Proof.Machine
end

section
/-! Proofs of the family 41_sha1.md: the padding (R79), the message schedule (R78, R83), and the hash from its rounds to the
digest bytes (R80 to R87). -/

namespace Sys2Proof.Machine

/-- The padding always ends a whole block: the padded length (41_sha1.md R79). -/
theorem length_sha1Pad (m : List Byte) : (sha1Pad m).length = 64 * ((m.length + 8) / 64 + 1) := by
  simp only [sha1Pad, List.length_append, List.length_cons, List.length_replicate, Vector.length_toList]
  omega

/-- Settles O48: the `z` of the model's padding, `(55 - L) mod 64`, is a residue below 64, so it is the least one that fits. -/
theorem paddingFillsWholeBlocks : Obligations.PaddingFillsWholeBlocks := by
  refine fun m => ⟨(119 - m.length % 64) % 64, ?form, ?whole, fun y hy => ?least, length_sha1Pad m⟩
  case form => simp [sha1Pad]
  case whole => omega
  case least => omega

/-- Words put side by side, the left one the more significant. -/
theorem toNat_append_eq_add {v w : Nat} (x : BitVec v) (y : BitVec w) : (x ++ y).toNat = x.toNat * 2 ^ w + y.toNat := by
  rw [BitVec.toNat_append, ← Nat.shiftLeft_add_eq_or_of_lt y.isLt, Nat.shiftLeft_eq]

/-- A block word is the big-endian value of its four bytes (41_sha1.md R78). -/
theorem blockWord_toNat (B : Vector Byte 64) (j : Fin 16) : (blockWord B j).toNat =
    B[4 * j.val].toNat * 2 ^ 24 + B[4 * j.val + 1].toNat * 2 ^ 16 + B[4 * j.val + 2].toNat * 2 ^ 8 +
      B[4 * j.val + 3].toNat := by
  simp only [blockWord, toNat_append_eq_add]
  ring

/-- A rotation moves the high `n` bits below the others: the two parts share no bit (00_scope.md R10). -/
theorem rotl32_toNat (x : Word32) {n : Nat} (hn : n < 32) :
    (rotl32 x n).toNat = x.toNat * 2 ^ n % 2 ^ 32 + x.toNat / 2 ^ (32 - n) := by
  have hlow : x.toNat / 2 ^ (32 - n) < 2 ^ n := by
    rw [Nat.div_lt_iff_lt_mul (Nat.two_pow_pos _), ← Nat.pow_add, Nat.add_sub_cancel' hn.le]
    exact x.isLt
  have hhigh : x.toNat * 2 ^ n % 2 ^ 32 = (x.toNat % 2 ^ (32 - n)) <<< n := by
    rw [Nat.shiftLeft_eq, ← Nat.mul_mod_mul_right, ← Nat.pow_add, Nat.sub_add_cancel hn.le]
  rw [rotl32, BitVec.toNat_or, BitVec.toNat_shiftLeft, BitVec.toNat_ushiftRight, Nat.shiftLeft_eq, Nat.shiftRight_eq_div_pow,
    hhigh, Nat.shiftLeft_add_eq_or_of_lt hlow]

/-- The last word put before the others is the next one of the schedule so far (41_sha1.md R83). -/
theorem scheduleExtend_succ (n : Nat) (ws : List Word32) :
    scheduleExtend (n + 1) ws = scheduleNext (scheduleExtend n ws) :: scheduleExtend n ws := by
  induction n generalizing ws with
  | zero => rfl
  | succ n ih => exact ih (scheduleNext ws :: ws)

@[simp] theorem length_scheduleExtend (n : Nat) (ws : List Word32) : (scheduleExtend n ws).length = n + ws.length := by
  induction n with
  | zero => simp [scheduleExtend]
  | succ n ih => rw [scheduleExtend_succ, List.length_cons, ih]; omega

/-- Behind the `k` newest words stand the words before them. -/
theorem scheduleExtend_getD (k n i : Nat) (ws : List Word32) :
    (scheduleExtend (n + k) ws).getD (i + k) 0 = (scheduleExtend n ws).getD i 0 := by
  induction k with
  | zero => rfl
  | succ k ih => rw [← Nat.add_assoc, scheduleExtend_succ, ← Nat.add_assoc, List.getD_cons_succ, ih]

/-- The message schedule has 80 words (41_sha1.md R83). -/
@[simp] theorem length_schedule (B : Vector Byte 64) : (schedule B).length = 80 := by
  simp [schedule]

/-- The schedule when it had `16 + n` words, newest first, already held word `t` (41_sha1.md R83). -/
theorem schedule_getD (B : Vector Byte 64) {n t : Nat} (hn : n ≤ 64) (ht : t < 16 + n) :
    (schedule B).getD t 0 = (scheduleExtend n (List.ofFn (blockWord B)).reverse).getD (15 + n - t) 0 := by
  have hrev : (schedule B).getD t 0 = (scheduleExtend 64 (List.ofFn (blockWord B)).reverse).getD (79 - t) 0 := by
    rw [schedule, List.getD_eq_getElem?_getD, List.getElem?_reverse (by simp; omega), List.getD_eq_getElem?_getD]
    simp
  have hindex : 79 - t = 15 + n - t + (64 - n) := by omega
  have hold := scheduleExtend_getD (64 - n) n (15 + n - t) (List.ofFn (blockWord B)).reverse
  rw [Nat.add_sub_cancel' hn] at hold
  rw [hrev, hindex, hold]

/-- The first sixteen schedule words are the block's (41_sha1.md R83). -/
theorem getElem?_schedule_blockWord (B : Vector Byte 64) (j : Fin 16) : (schedule B)[j.val]? = some (blockWord B j) := by
  have hj : j.val < (schedule B).length := by rw [length_schedule]; omega
  have hfirst := schedule_getD B (n := 0) (t := j) (by omega) (by omega)
  rw [List.getD_eq_getElem _ _ hj] at hfirst
  have hindex : 16 - 1 - (15 + 0 - j.val) = j := by omega
  rw [List.getElem?_eq_getElem hj, hfirst, scheduleExtend, List.getD_eq_getElem _ _ (by simp; omega),
    List.getElem_reverse]
  simp only [List.length_ofFn, hindex, List.getElem_ofFn]

/-- From word 16 on the schedule follows its recurrence (41_sha1.md R83). -/
theorem schedule_recurrence (B : Vector Byte 64) {t : Nat} (h16 : 16 ≤ t) (h80 : t < 80) : (schedule B).getD t 0 =
    rotl32 ((schedule B).getD (t - 3) 0 ^^^ (schedule B).getD (t - 8) 0 ^^^ (schedule B).getD (t - 14) 0 ^^^
      (schedule B).getD (t - 16) 0) 1 := by
  obtain ⟨n, rfl⟩ := Nat.exists_eq_add_of_le h16
  have hold (k : Nat) (hk : k < 16) : (schedule B).getD (16 + n - (k + 1)) 0 =
      (scheduleExtend n (List.ofFn (blockWord B)).reverse).getD k 0 := by
    rw [schedule_getD B (n := n) (by omega) (by omega)]
    congr 1
    omega
  rw [schedule_getD B (n := n + 1) (by omega) (by omega), scheduleExtend_succ, hold 2 (by omega), hold 7 (by omega),
    hold 13 (by omega), hold 15 (by omega)]
  have hnewest : 15 + (n + 1) - (16 + n) = 0 := by omega
  rw [hnewest, List.getD_cons_zero, scheduleNext]

/-- Settles O49: the model extends the schedule newest word first, so each word is `scheduleNext` of the ones behind it. -/
theorem scheduleFollowsItsRecurrence : Obligations.ScheduleFollowsItsRecurrence :=
  ⟨blockWord_toNat, fun x _ _ hn => rotl32_toNat x hn, fun B =>
    ⟨length_schedule B, getElem?_schedule_blockWord B, fun _ h16 h80 => schedule_recurrence B h16 h80⟩⟩

/-- The round function chooses between its last two words up to round 19 (41_sha1.md R82). -/
theorem roundFun_choose_getLsbD {t k : Nat} (ht : t ≤ 19) (hk : k < 32) (x y z : Word32) :
    (roundFun t x y z).getLsbD k = if x.getLsbD k then y.getLsbD k else z.getLsbD k := by
  rw [roundFun, if_pos (by omega), BitVec.getLsbD_or, BitVec.getLsbD_and, BitVec.getLsbD_and, BitVec.getLsbD_not]
  cases x.getLsbD k <;> simp [hk]

/-- The round function is the parity in rounds 20 to 39 and from round 60 on (41_sha1.md R82). -/
theorem roundFun_parity_getLsbD {t : Nat} (h20 : 20 ≤ t) (ht : t ≤ 39 ∨ 60 ≤ t) (k : Nat) (x y z : Word32) :
    (roundFun t x y z).getLsbD k = ((x.getLsbD k ^^ y.getLsbD k) ^^ z.getLsbD k) := by
  have hparity : roundFun t x y z = x ^^^ y ^^^ z := by
    rcases ht with h39 | h60
    · rw [roundFun, if_neg (by omega), if_pos (by omega)]
    · rw [roundFun, if_neg (by omega), if_neg (by omega), if_neg (by omega)]
  rw [hparity, BitVec.getLsbD_xor, BitVec.getLsbD_xor]

/-- The round function is the majority in rounds 40 to 59 (41_sha1.md R82). -/
theorem roundFun_majority_getLsbD {t : Nat} (h40 : 40 ≤ t) (ht : t ≤ 59) (k : Nat) (x y z : Word32) :
    (roundFun t x y z).getLsbD k = true ↔ 2 ≤ (x.getLsbD k).toNat + (y.getLsbD k).toNat + (z.getLsbD k).toNat := by
  have hmajority : roundFun t x y z = (x &&& y) ||| (x &&& z) ||| (y &&& z) := by
    rw [roundFun, if_neg (by omega), if_neg (by omega), if_pos (by omega)]
  simp only [hmajority, BitVec.getLsbD_or, BitVec.getLsbD_and]
  generalize x.getLsbD k = a, y.getLsbD k = b, z.getLsbD k = c
  revert a b c
  decide

/-- The round constants (41_sha1.md R81). -/
theorem roundConst_cases (t : Nat) : (t ≤ 19 → roundConst t = 0x5A827999) ∧ (20 ≤ t → t ≤ 39 → roundConst t = 0x6ED9EBA1) ∧
    (40 ≤ t → t ≤ 59 → roundConst t = 0x8F1BBCDC) ∧ (60 ≤ t → t ≤ 79 → roundConst t = 0xCA62C1D6) := by
  refine ⟨fun h => ?_, fun h h' => ?_, fun h h' => ?_, fun h h' => ?_⟩
  · rw [roundConst, if_pos (by omega)]
  · rw [roundConst, if_neg (by omega), if_pos (by omega)]
  · rw [roundConst, if_neg (by omega), if_neg (by omega), if_pos (by omega)]
  · rw [roundConst, if_neg (by omega), if_neg (by omega), if_neg (by omega)]

/-- The first new register of a round is a sum modulo `2^32` (41_sha1.md R84). -/
theorem sha1Round_a_toNat (t : Nat) (w : Word32) (s : Words5) : (sha1Round t w s).a.toNat =
    ((rotl32 s.a 5).toNat + (roundFun t s.b s.c s.d).toNat + s.e.toNat + (roundConst t).toNat + w.toNat) % 2 ^ 32 := by
  simp only [sha1Round, BitVec.toNat_add, Nat.mod_add_mod]

/-- The rounds over a list of schedule words, as a fold over their round numbers (41_sha1.md R85). -/
theorem sha1Rounds_eq_foldl (t : Nat) (ws : List Word32) (s : Words5) :
    sha1Rounds t ws s = (List.range ws.length).foldl (fun s i => sha1Round (t + i) (ws.getD i 0) s) s := by
  induction ws generalizing t s with
  | nil => rfl
  | cons w ws ih =>
    have hround (i : Nat) : t + 1 + i = t + (i + 1) := by omega
    simp [sha1Rounds, ih, List.range_succ_eq_map, List.foldl_map, hround]

/-- Compression applies rounds 0 to 79 and adds (41_sha1.md R85). -/
theorem sha1Compress_eq (H : Words5) (B : Vector Byte 64) :
    sha1Compress H B = H.add ((List.range 80).foldl (fun s t => sha1Round t ((schedule B).getD t 0) s) H) := by
  simp only [sha1Compress, sha1Rounds_eq_foldl, length_schedule, Nat.zero_add]

/-- Zero-padding cuts a string that is long enough. -/
theorem toList_zeroPad {n : Nat} {m : List Byte} (h : n ≤ m.length) : (zeroPad n m).toList = m.take n := by
  apply List.ext_getElem
  · rw [Vector.length_toList, List.length_take_of_le h]
  · intro i hi hi'
    have him : i < m.length := by rw [List.length_take] at hi'; omega
    simp [him]

/-- The first `n` runs of `c` elements, one after the other, are the first `c * n` elements. -/
theorem flatMap_range_take_drop {α : Type} (c n : Nat) (l : List α) :
    (List.range n).flatMap (fun k => (l.drop (c * k)).take c) = l.take (c * n) := by
  induction n with
  | zero => simp
  | succ n ih => simp [List.range_succ, ih, Nat.mul_succ, List.take_add]

/-- The blocks of a padded message are its bytes in order (41_sha1.md R86). -/
theorem flatMap_sha1Blocks {p : List Byte} (hp : p.length % 64 = 0) : (sha1Blocks p).flatMap (fun B => B.toList) = p := by
  have hblock : ∀ k ∈ List.range (p.length / 64), (zeroPad 64 (p.drop (64 * k))).toList = (p.drop (64 * k)).take 64 := by
    intro k hk
    rw [List.mem_range] at hk
    exact toList_zeroPad (by rw [List.length_drop]; omega)
  rw [sha1Blocks, List.flatMap_map, List.flatMap_congr hblock, flatMap_range_take_drop, List.take_of_length_le (by omega)]

/-- A digest byte (41_sha1.md R87). -/
theorem serialise_toNat (H : Words5) (j : Fin 5) (k : Fin 4) : ((serialise H)[4 * j.val + k.val]).toNat =
    ([H.a, H.b, H.c, H.d, H.e][j]).toNat / 2 ^ (8 * (3 - k.val)) % 256 := by
  have hword : chainWord H j = [H.a, H.b, H.c, H.d, H.e][j] := by
    fin_cases j <;> rfl
  have hj : (4 * j.val + k.val) / 4 = j := by omega
  have hk : (4 * j.val + k.val) % 4 = k := by omega
  rw [serialise_get, beByte_toNat, hj, hk, hword]

/-- Settles O50, rule by rule: the rounds are a fold over their numbers, and the blocks are runs of 64 bytes. -/
theorem digestBytesOfTheChainingValue : Obligations.DigestBytesOfTheChainingValue := by
  refine ⟨rfl, fun t k x y z hk => ⟨fun ht => ?choose, fun h20 ht _ => ?parity, fun h40 ht => ?majority⟩, roundConst_cases,
    fun t w s _ => ⟨sha1Round_a_toNat t w s, rfl, rfl, rfl, rfl⟩, fun H r B hr => ?compress, fun p => flatMap_sha1Blocks,
    fun m => ?hash, serialise_toNat⟩
  case choose => exact roundFun_choose_getLsbD ht hk x y z
  case parity => exact roundFun_parity_getLsbD h20 ht k x y z
  case majority => exact roundFun_majority_getLsbD h40 ht k x y z
  case compress => rw [sha1Compress_eq, ← hr, Words5.add]
  case hash => rw [sha1]

end Sys2Proof.Machine
end

section
/-! Proofs of the family 42_hmac_sign.md: the key block and HMAC (R92 to R95), and SIGN in every case (R98). -/

namespace Sys2Proof.Machine

/-- The counter is the quotient of 64-bit numbers (40_counter_encoder.md R72). -/
theorem counterOf_eq_div (x d : Word64) (h : d ≠ 0) : counterOf x d h = x / d := by
  apply BitVec.eq_of_toNat_eq
  rw [counterOf_toNat, BitVec.toNat_udiv]

/-- Stages 1 and 2 from cleared results, V_SIGN and the scrub leave the signed state (42_hmac_sign.md R98). -/
theorem signerStages_eq_signedState {s : State} (h : s.timestep ≠ 0) :
    scrubInternal (setVSign (signerStages (signerOperands s h) (resultsClear s))) = signedState s := by
  have hcounter : counterOf s.time s.timestep h = counterNow s := counterOf_eq_div s.time s.timestep h
  rw [signedState, digestNow, ← hcounter]
  rfl

/-- Settles O12: the four ends of `signWith` are the four branches, each with its state written out. -/
theorem signInEveryCase : Obligations.SignInEveryCase := by
  intro s
  have hexec : exec .sign s = .next (signWith Config.keyMax s) := rfl
  rw [hexec]
  congr 1
  rcases signWith_cases Config.keyMax s with ⟨he, hs⟩ | ⟨he, ht, hs⟩ | ⟨he, ht, hk, hs⟩ | ⟨he, hk, ht, hs⟩
  · rw [hs, if_pos he]
  · rw [hs, if_neg (not_not.mpr he), if_pos ht, raiseFault_eq_faulted]
  · rw [hs, if_neg (not_not.mpr he), if_neg ht, if_pos hk, raiseFault_eq_faulted]
  · rw [hs, if_neg (not_not.mpr he), if_neg ht, if_neg hk.not_gt, signerStages_eq_signedState]

/-- Zero-padding puts zero bytes after a string that is not too long. -/
theorem toList_zeroPad_of_length_le {n : Nat} {m : List Byte} (h : m.length ≤ n) :
    (zeroPad n m).toList = m ++ List.replicate (n - m.length) 0x00 := by
  apply List.ext_getElem
  · rw [Vector.length_toList, List.length_append, List.length_replicate, Nat.add_sub_cancel' h]
  · intro i hi hi'
    by_cases him : i < m.length
    · simp [him]
    · simp [him, List.getElem_append_right (Nat.not_lt.mp him)]

/-- The block with a pad, as bytes (42_hmac_sign.md R93). -/
theorem toList_xorBlock (pad : Byte) (K : Vector Byte 64) : (xorBlock pad K).toList = K.toList.map (· ^^^ pad) :=
  Vector.toList_map

/-- Settles O52: a short key is padded to 64 bytes, and so are the 20 bytes a long one is hashed to. -/
theorem keyBlockHashesOnlyLongKeys : Obligations.KeyBlockHashesOnlyLongKeys := by
  refine ⟨fun key => ⟨fun hlong => ?long, fun hshort => ?short⟩, fun key m => ?hmac, fun s m => rfl⟩
  case long =>
    rw [hmacKeyBlock, if_pos hlong, toList_zeroPad_of_length_le (by simp), Vector.length_toList]
  case short => rw [hmacKeyBlock, if_neg hshort.not_gt, toList_zeroPad_of_length_le hshort]
  case hmac =>
    rw [hmacSha1, outerInput, hmacInner, innerInput, toList_xorBlock, toList_xorBlock]
    rfl

end Sys2Proof.Machine
end

section
/-! Proofs of the family 43_truncation.md: the offset (R102), and the window read big-endian (R103). -/

namespace Sys2Proof.Machine

/-- The offset is the low nibble of the last byte (43_truncation.md R102). -/
theorem dtOffset_toNat (d : Vector Byte 20) : (dtOffset d).toNat = d[19].toNat % 16 := by
  rw [dtOffset, BitVec.toNat_setWidth]

/-- A mask of the low `n` bits keeps the remainder modulo `2^n`. -/
theorem toNat_and_lowMask {m : Byte} {n : Nat} (hm : m.toNat = 2 ^ n - 1) (b : Byte) : (b &&& m).toNat = b.toNat % 2 ^ n := by
  rw [BitVec.toNat_and, hm, Nat.and_two_pow_sub_one_eq_mod]

/-- Last bytes with the same low nibble give the same offset (43_truncation.md R102). -/
theorem dtOffset_congr {d e : Vector Byte 20} (h : d[19] &&& 0x0F#8 = e[19] &&& 0x0F#8) : dtOffset d = dtOffset e := by
  have hnibble (b : Byte) : (b &&& 0x0F#8).toNat = b.toNat % 16 := toNat_and_lowMask (n := 4) rfl b
  apply BitVec.eq_of_toNat_eq
  rw [dtOffset_toNat, dtOffset_toNat, ← hnibble, ← hnibble, h]

/-- The window ends at byte 18, so it never holds the last byte (43_truncation.md R104). -/
theorem windowByte_congr {d e : Vector Byte 20} (ho : dtOffset d = dtOffset e) (h : ∀ i : Fin 19, d[i.val] = e[i.val])
    (k : Fin 4) : windowByte d k = windowByte e k := by
  have hindex : (dtOffset d).toNat + k.val < 19 := by
    have hoff := (dtOffset d).isLt
    omega
  simp only [windowByte, ← ho]
  exact h ⟨_, hindex⟩

/-- Settles O53: the mask of the low nibble fixes the offset, and no window reaches byte 19. -/
theorem offsetIsTheLowNibbleOfTheLastByte : Obligations.OffsetIsTheLowNibbleOfTheLastByte := by
  refine ⟨dtOffset_toNat, fun d e hbytes hnibble => ?_⟩
  have hoff : dtOffset d = dtOffset e := dtOffset_congr hnibble
  have hwindow := windowByte_congr hoff hbytes
  exact ⟨hoff, by simp only [dtCode31, hwindow]⟩

/-- Four bytes of the digest from the offset on: the window, which never leaves the digest (43_truncation.md R104). -/
theorem take_drop_eq_window (d : Vector Byte 20) : (d.toList.drop (dtOffset d).toNat).take 4 = List.ofFn (windowByte d) := by
  have hoff := (dtOffset d).isLt
  apply List.ext_getElem
  · simp only [List.length_take, List.length_drop, Vector.length_toList, List.length_ofFn]
    omega
  · intro k hk hk'
    simp only [List.getElem_take, List.getElem_drop, Vector.getElem_toList, List.getElem_ofFn, windowByte]

/-- A byte put in below a word shifted by eight bits stands beside it. -/
theorem shiftLeft_or_byte {v : Nat} (x : BitVec v) (b : Byte) :
    (x.setWidth 32 <<< 8) ||| b.setWidth 32 = (x ++ b).setWidth 32 := by
  apply BitVec.eq_of_getLsbD_eq
  intro i hi
  simp only [BitVec.getLsbD_or, BitVec.getLsbD_shiftLeft, BitVec.getLsbD_setWidth, BitVec.getLsbD_append]
  by_cases hlow : i < 8
  case pos => simp [hlow]
  case neg =>
    have hword : i - 8 < 32 := by omega
    have hbyte : b.getLsbD i = false := BitVec.getLsbD_of_ge b i (by omega)
    simp [hlow, hword, hbyte]

/-- The four fields do not overlap: `|` puts the bytes side by side, one after the other (43_truncation.md R103). -/
theorem or_shiftLeft_bytes_eq_append (a b c d : Byte) :
    (a.setWidth 32 <<< 24) ||| (b.setWidth 32 <<< 16) ||| (c.setWidth 32 <<< 8) ||| d.setWidth 32 = a ++ b ++ c ++ d := by
  have hnested : (a.setWidth 32 <<< 24) ||| (b.setWidth 32 <<< 16) ||| (c.setWidth 32 <<< 8) =
      ((a.setWidth 32 <<< 8 ||| b.setWidth 32) <<< 8 ||| c.setWidth 32) <<< 8 := by
    simp only [BitVec.shiftLeft_or_distrib, ← BitVec.shiftLeft_add]
  rw [hnested, shiftLeft_or_byte, shiftLeft_or_byte, shiftLeft_or_byte, BitVec.setWidth_eq]

/-- The code is a sum of its four fields (43_truncation.md R103). -/
theorem dtCode31_toNat (d : Vector Byte 20) : (dtCode31 d).toNat =
    (windowByte d 0).toNat % 128 * 2 ^ 24 + (windowByte d 1).toNat * 2 ^ 16 + (windowByte d 2).toNat * 2 ^ 8 +
      (windowByte d 3).toNat := by
  have hfirst : (windowByte d 0 &&& 0x7F).toNat = (windowByte d 0).toNat % 128 := toNat_and_lowMask (n := 7) rfl _
  rw [dtCode31, or_shiftLeft_bytes_eq_append]
  simp only [toNat_append_eq_add, hfirst]
  ring

/-- The big-endian value of four bytes (00_scope.md R10). -/
theorem beVal_ofFn_four (f : Fin 4 → Byte) : beVal (List.ofFn f) =
    (f 0).toNat * 2 ^ 24 + (f 1).toNat * 2 ^ 16 + (f 2).toNat * 2 ^ 8 + (f 3).toNat := by
  have hbytes : List.ofFn f = [f 0, f 1, f 2, f 3] := rfl
  rw [hbytes]
  simp only [beVal, List.foldl_cons, List.foldl_nil]
  ring

/-- Settles O54: code and window value are sums of the same bytes, and the mask's remainder by 128 is the one by `2^31`. -/
theorem truncationReadsTheWindowBigEndian : Obligations.TruncationReadsTheWindowBigEndian := by
  rintro d w rfl
  rw [take_drop_eq_window, beVal_ofFn_four, List.length_ofFn]
  have hcode : (dtCode31 d).toNat = ((windowByte d 0).toNat * 2 ^ 24 + (windowByte d 1).toNat * 2 ^ 16 +
      (windowByte d 2).toNat * 2 ^ 8 + (windowByte d 3).toNat) % 2 ^ 31 := by
    rw [dtCode31_toNat]
    have h1 := (windowByte d 1).isLt
    have h2 := (windowByte d 2).isLt
    have h3 := (windowByte d 3).isLt
    omega
  refine ⟨rfl, hcode, ?_⟩
  omega

end Sys2Proof.Machine
end

section
/-! Proofs of the family 44_digit_reducer.md: the reduction modulo a power of ten (R108, R109), and the rendered string as
decimal digits (R111, R112). -/

namespace Sys2Proof.Machine

/-- All nineteen powers of ten fit 64 bits (44_digit_reducer.md R108). -/
theorem pow10_toNat {n : Nat} (h : 1 ≤ n ∧ n ≤ 19) : (pow10 n h).toNat = 10 ^ n := by
  have hfits : 10 ^ n < 2 ^ 64 := calc
    10 ^ n ≤ 10 ^ 19 := Nat.pow_le_pow_right (by decide) h.2
    _ < 2 ^ 64 := by decide
  rw [pow10, BitVec.toNat_ofNat, Nat.mod_eq_of_lt hfits]

/-- Neither the extension to 64 bits nor the divisor loses a bit, so the remainder is exact (44_digit_reducer.md R109). -/
theorem reduceCode_toNat (c : Word32) {n : Nat} (h : 1 ≤ n ∧ n ≤ 19) : (reduceCode c n h).toNat = c.toNat % 10 ^ n := by
  rw [reduceCode, BitVec.toNat_umod, pow10_toNat, BitVec.toNat_setWidth_of_le (by decide)]

/-- Settles O55: the reduction is the remainder of natural numbers, which is below its divisor and at most its dividend. -/
theorem reductionIsTheExactRemainder : Obligations.ReductionIsTheExactRemainder := by
  intro c n h
  rw [reduceCode_toNat]
  exact ⟨pow10_toNat h, rfl, Nat.mod_lt _ (Nat.pow_pos (by decide)), Nat.mod_le _ _⟩

/-- The value of a string of ASCII digits read in base ten, most significant first (44_digit_reducer.md R111). -/
def decVal (m : List Byte) : Nat := m.foldl (fun acc b => acc * 10 + (b.toNat - 0x30)) 0

/-- A last character appended is the least significant digit. -/
theorem decVal_append_singleton (m : List Byte) (b : Byte) : decVal (m ++ [b]) = decVal m * 10 + (b.toNat - 0x30) := by
  simp [decVal]

/-- The quotient by `10^m` is the one by `10^(m+1)` with one more digit. -/
theorem div_pow_succ_mul_ten_add (v m : Nat) : v / 10 ^ (m + 1) * 10 + v / 10 ^ m % 10 = v / 10 ^ m := by
  rw [Nat.pow_succ, ← Nat.div_div_eq_div_mul]
  exact Nat.div_add_mod' _ _

/-- The first `k` characters are the leading digits of the value (44_digit_reducer.md R111). -/
theorem decVal_take_codeString {v : Word64} {n k : Nat} (hn : n ≤ 19) (hv : v.toNat < 10 ^ n) (hk : k ≤ n) :
    decVal ((codeString v n).toList.take k) = v.toNat / 10 ^ (n - k) := by
  induction k with
  | zero => exact (Nat.div_eq_of_lt hv).symm
  | succ k ih =>
    have hlen : k < (codeString v n).toList.length := by rw [Vector.length_toList]; omega
    have hchar : (codeString v n).toList[k] = renderChar v n k := by
      rw [Vector.getElem_toList, codeString_get, if_pos (Nat.lt_of_succ_le hk)]
    have hprev : n - k = n - 1 - k + 1 := by omega
    have hnext : n - (k + 1) = n - 1 - k := by omega
    rw [List.take_succ_eq_append_getElem hlen, decVal_append_singleton, hchar, renderChar_toNat, Nat.add_sub_cancel_left,
      ih (by omega), hprev, hnext, div_pow_succ_mul_ten_add]

/-- Settles O57: `codeString_get` gives each byte, and all `n` characters read back as the quotient by `10^0`. -/
theorem renderedStringReadsBackAsTheValue : Obligations.RenderedStringReadsBackAsTheValue := by
  intro v n _ hn hv
  have hget (i : Fin 19) : (codeString v n)[i] = if i.val < n then renderChar v n i else 0x00 := codeString_get v n i i.isLt
  refine ⟨fun i hi => ?digit, fun i hi => ?beyond, ?readBack⟩
  case digit => rw [hget, if_pos hi, renderChar_toNat]
  case beyond => rw [hget, if_neg hi.not_gt]
  case readBack =>
    have hall := decVal_take_codeString hn hv le_rfl
    rwa [Nat.sub_self, Nat.pow_zero, Nat.div_one] at hall

end Sys2Proof.Machine
end

section
/-! Proofs of the family 45_commands.md: GENAT (R120), GENNOW (R121) and CLEAR (R122) in every case. -/

namespace Sys2Proof.Machine

theorem exec_genat (s : State) : exec .genat s = .next (genatWith Config.keyMax s) := rfl

theorem exec_gennow (s : State) : exec .gennow s = .next (gennowWith Config.keyMax s) := rfl

/-- CLEAR leaves what the reset input leaves (45_commands.md R122). -/
theorem exec_clear (s : State) : exec .clear s = .next (resetCore s) := rfl

/-- The reset input leaves STATUS zero (70_reset_and_hazards.md R152). -/
theorem statusWord_resetCore (s : State) : statusWord (resetCore s) = 0x00 := by
  rw [statusWord, resetCore_err, resetCore_vSign, resetCore_vCode]
  decide

/-- OFFSET is the last byte with its high nibble masked off (43_truncation.md R102, R105). -/
theorem setWidth_dtOffset (d : Vector Byte 20) : (dtOffset d).setWidth 8 = d[19] &&& 0x0F := by
  apply BitVec.eq_of_toNat_eq
  rw [BitVec.toNat_setWidth_of_le (by decide), dtOffset_toNat, toNat_and_lowMask (n := 4) rfl]
  rfl

/-- DIGITS is refused exactly outside 1 to 19 (60_exceptions.md R135). -/
theorem digits_out_of_range_iff (n : Byte) : n = 0 ∨ 19 < n.toNat ↔ ¬(1 ≤ n.toNat ∧ n.toNat ≤ 19) := by
  have hzero : n = 0 ↔ n.toNat = 0 := BitVec.toNat_inj.symm
  rw [hzero]
  omega

/-- The four stages from cleared results, both valid flags and the scrub leave the generated state (45_commands.md R120). -/
theorem generate_eq_generatedState {s : State} (h : s.timestep ≠ 0) (r : 1 ≤ s.digits.toNat ∧ s.digits.toNat ≤ 19) :
    generate (codeOperands s h r) (resultsClear s) = generatedState s := by
  have hcounter : counterOf s.time s.timestep h = counterNow s := counterOf_eq_div s.time s.timestep h
  have hcode : (reduceCode (dtCode31 (digestNow s)) s.digits.toNat r).toNat = codeNow s := reduceCode_toNat _ r
  rw [generatedState, ← setWidth_dtOffset, ← hcode, BitVec.ofNat_toNat, BitVec.setWidth_eq, digestNow, ← hcounter]
  rfl

/-- A good GENNOW is GENAT with the sample's seconds as TIME: the scrub clears the latch the sample stood in (R121). -/
theorem generate_sample_eq_generatedState {s : State} (h : s.timestep ≠ 0)
    (r : 1 ≤ s.digits.toNat ∧ s.digits.toNat ≤ 19) :
    generate { codeOperands s h r with time := (nextSample s).sec }
        { drawSample (resultsClear s) with time := (nextSample s).sec } =
      generatedState { sampled s with time := (nextSample s).sec } :=
  generate_eq_generatedState (s := { sampled s with time := (nextSample s).sec }) h r

/-- Fault entry scrubs the latch, so of a drawn sample only the port's move remains (60_exceptions.md R136, R140). -/
theorem raiseFault_drawSample (e : Err) (s : State) : raiseFault e (drawSample s) = faulted e (sampled s) := rfl

/-- Settles O14: the five ends of `genatWith` are the five branches, each with its state written out. -/
theorem genatInEveryCase : Obligations.GenatInEveryCase := by
  intro s
  rw [exec_genat]
  congr 1
  simp only [digits_out_of_range_iff]
  rcases genatWith_cases Config.keyMax s with
    ⟨he, hs⟩ | ⟨he, ht, hs⟩ | ⟨he, ht, hk, hs⟩ | ⟨he, ht, hk, hr, hs⟩ | ⟨he, hk, ht, hr, hs⟩
  · rw [hs, if_pos he]
  · rw [hs, if_neg (not_not.mpr he), if_pos ht, raiseFault_eq_faulted]
  · rw [hs, if_neg (not_not.mpr he), if_neg ht, if_pos hk, raiseFault_eq_faulted]
  · rw [hs, if_neg (not_not.mpr he), if_neg ht, if_neg hk.not_gt, if_pos hr, raiseFault_eq_faulted]
  · rw [hs, if_neg (not_not.mpr he), if_neg ht, if_neg hk.not_gt, if_neg (not_not.mpr hr), generate_eq_generatedState]

/-- Settles O17: the configuration faults are GENAT's; past them the one sample decides between ERR_CLOCK and the good end. -/
theorem gennowInEveryCase : Obligations.GennowInEveryCase := by
  intro s
  rw [exec_gennow]
  congr 1
  simp only [digits_out_of_range_iff]
  rcases gennowWith_cases Config.keyMax s with
    ⟨he, hs⟩ | ⟨he, ht, hs⟩ | ⟨he, ht, hk, hs⟩ | ⟨he, ht, hk, hr, hs⟩ | ⟨he, ht, hk, hr, hv, hs⟩ | ⟨he, hk, hv, ht, hr, hs⟩
  · rw [hs, if_pos he]
  · rw [hs, if_neg (not_not.mpr he), if_pos ht, raiseFault_eq_faulted]
  · rw [hs, if_neg (not_not.mpr he), if_neg ht, if_pos hk, raiseFault_eq_faulted]
  · rw [hs, if_neg (not_not.mpr he), if_neg ht, if_neg hk.not_gt, if_pos hr, raiseFault_eq_faulted]
  · rw [hs, if_neg (not_not.mpr he), if_neg ht, if_neg hk.not_gt, if_neg (not_not.mpr hr), if_pos hv,
      raiseFault_drawSample]
  · rw [hs, if_neg (not_not.mpr he), if_neg ht, if_neg hk.not_gt, if_neg (not_not.mpr hr), if_neg (by simp [hv]),
      generate_sample_eq_generatedState]

/-- Settles O25: CLEAR's end is the reset input's, whose flags and ERR are 0 and whose key memory lists no byte. -/
theorem clearGivesTheResetState : Obligations.ClearGivesTheResetState :=
  fun s => ⟨resetCore s, exec_clear s, statusWord_resetCore s, Memory.read_nil, rfl⟩

end Sys2Proof.Machine
end

section
/-! Proofs of the family 60_exceptions.md: fault entry (R140) and the priority of the faults (R139). -/

namespace Sys2Proof.Machine

@[simp] theorem faulted_err (e : Err) (s : State) : (faulted e s).err = e := rfl

@[simp] theorem faulted_env (e : Err) (s : State) : (faulted e s).env = s.env := rfl

@[simp] theorem signedState_err (s : State) : (signedState s).err = s.err := rfl

@[simp] theorem generatedState_err (s : State) : (generatedState s).err = s.err := rfl

@[simp] theorem sampled_err (s : State) : (sampled s).err = s.err := rfl

/-- With both valid flags clear STATUS is the fault code alone (10_state.md R17). -/
theorem statusWord_of_flags_clear {s : State} (hsign : s.vSign = false) (hcode : s.vCode = false) :
    statusWord s = (errCode s.err).setWidth 8 := by
  rw [statusWord, hsign, hcode]
  cases s.err <;> decide

/-- Fault entry leaves `STATUS = 0x00 + code` (60_exceptions.md R140). -/
theorem statusWord_faulted (e : Err) (s : State) : statusWord (faulted e s) = (errCode e).setWidth 8 :=
  statusWord_of_flags_clear (s := faulted e s) rfl rfl

/-- Settles O27: fault entry clears both valid flags, so STATUS is the code of the fault. -/
theorem faultEntryDoesThisAndNoMore : Obligations.FaultEntryDoesThisAndNoMore :=
  ⟨fun e s => ⟨raiseFault_eq_faulted e s, statusWord_faulted e s⟩, fun s =>
    ⟨statusWord_faulted .cmd s, statusWord_faulted .timestep s, statusWord_faulted .keyLen s, statusWord_faulted .digits s,
      statusWord_faulted .clock s⟩⟩

/-- The ERR a SIGN leaves: TIMESTEP is checked before KEYLEN (60_exceptions.md R139). -/
theorem err_of_exec_sign {s t : State} (he : s.err = .noFault) (h : exec .sign s = .next t) :
    t.err = (if s.timestep = 0 then .timestep else if Config.keyMax < s.keyLen.toNat then .keyLen else .noFault) := by
  rw [signInEveryCase s, if_neg (not_not.mpr he)] at h
  cases h
  simp only [apply_ite State.err, faulted_err, signedState_err, he]

/-- The ERR a GENAT leaves: TIMESTEP, KEYLEN, then DIGITS (60_exceptions.md R139). -/
theorem err_of_exec_genat {s t : State} (he : s.err = .noFault) (h : exec .genat s = .next t) :
    t.err = (if s.timestep = 0 then .timestep else if Config.keyMax < s.keyLen.toNat then .keyLen
      else if s.digits = 0 ∨ 19 < s.digits.toNat then .digits else .noFault) := by
  rw [genatInEveryCase s, if_neg (not_not.mpr he)] at h
  cases h
  simp only [apply_ite State.err, faulted_err, generatedState_err, he]

/-- The ERR a GENNOW leaves: GENAT's checks, then the clock (60_exceptions.md R139). -/
theorem err_of_exec_gennow {s t : State} (he : s.err = .noFault) (h : exec .gennow s = .next t) :
    t.err = (if s.timestep = 0 then .timestep else if Config.keyMax < s.keyLen.toNat then .keyLen
      else if s.digits = 0 ∨ 19 < s.digits.toNat then .digits else if (nextSample s).valid = false then .clock
      else .noFault) := by
  rw [gennowInEveryCase s, if_neg (not_not.mpr he)] at h
  cases h
  simp only [apply_ite State.err, faulted_err, generatedState_err, sampled_err, he]

/-- A GENNOW that faults on its configuration samples no clock: the sample comes after the checks (45_commands.md R121). -/
theorem env_of_gennow_configFault {s t : State} (he : s.err = .noFault) (h : exec .gennow s = .next t)
    (hfault : t.err ≠ .noFault) (hclock : t.err ≠ .clock) : t.env = s.env := by
  rw [gennowInEveryCase s, if_neg (not_not.mpr he)] at h
  split_ifs at h with htime hkey hdigits hsample <;> cases h
  · exact faulted_env .timestep s
  · exact faulted_env .keyLen s
  · exact faulted_env .digits s
  · exact absurd (faulted_err .clock _) hclock
  · exact absurd he hfault

/-- Settles O32: each command's case equation gives its ERR; an illegal byte has the one fault ERR_CMD. -/
theorem firstFaultInPriorityIsReported : Obligations.FirstFaultInPriorityIsReported := by
  refine ⟨fun s t he h => ⟨err_of_exec_gennow he h, env_of_gennow_configFault he h⟩, fun s t => err_of_exec_genat,
    fun s t => err_of_exec_sign, fun c s t he hc h => ?illegal⟩
  have hcommand : command c s = .next t := h
  rw [command_of_illegal hc, if_pos he] at hcommand
  cases hcommand
  exact faulted_err .cmd s

end Sys2Proof.Machine
end

section
/-! Proofs of the family 70_reset_and_hazards.md: the reset state the reset input leaves (R152). -/

namespace Sys2Proof.Machine

/-- The reset input always completes (70_reset_and_hazards.md R151). -/
theorem perform_rst (s : State) : perform .rst s = .next (resetCore s) := rfl

/-- CMD holds nothing, whatever the state (10_state.md R18). -/
theorem readLoc_cmd (s : State) : readLoc s .cmd = .byte 0x00 := rfl

/-- Settles O9: `resetCore` gives each register its reset value, and a byte of a zero array or of the empty key memory is 0x00. -/
theorem resetInputGivesTheResetState : Obligations.ResetInputGivesTheResetState := by
  intro s
  refine ⟨resetCore s, perform_rst s, statusWord_resetCore s, resetCore_err s, resetCore_vSign s, resetCore_vCode s,
    resetCore_keyLen s, resetCore_digits s, resetCore_timestep s, resetCore_time s, resetCore_counter s, resetCore_offset s,
    resetCore_code31 s, resetCore_codeVal s, resetCore_codeLen s, fun i => ?msg, fun i => ?digest, fun i => ?codeStr,
    Memory.read_nil, resetCore_hmac s, resetCore_clockLatch s, readLoc_cmd _, rfl⟩
  case msg => exact Vector.getElem_replicate i.isLt
  case digest => exact Vector.getElem_replicate i.isLt
  case codeStr => exact Vector.getElem_replicate i.isLt

end Sys2Proof.Machine
end

section
/-! Proofs of the family other, the words the core decodes: location numbers (10_state.md R14), opcodes (30_encoding.md R60)
and the fields of STATUS (10_state.md R17). -/

namespace Sys2Proof

/-- The number of a location addresses it (10_state.md R14). -/
@[simp] theorem locate_number (l : Loc) : locate l.number = some l := by
  cases l with
  | msg i => revert i; decide
  | digest i => revert i; decide
  | codeStr i => revert i; decide
  | _ => rfl

/-- A location is addressed by its own number only (20_memory.md R41). -/
theorem number_of_locate : ∀ (n : Byte), ∀ l ∈ locate n, l.number = n := by decide +kernel

theorem locate_eq_some_iff {n : Byte} {l : Loc} : locate n = some l ↔ l.number = n := by
  constructor
  · intro h
    exact number_of_locate n l h
  · rintro rfl
    exact locate_number l

/-- Settles O4: `locate` inverts `Loc.number`, and the mapped numbers are counted over the 256. -/
theorem locationNumbersAgree : Obligations.LocationNumbersAgree := by
  refine ⟨⟨rfl, rfl, rfl, rfl, rfl, rfl, rfl, rfl, rfl, rfl, rfl, ?msg, ?digest, ?codeStr⟩,
    fun n l => locate_eq_some_iff, ?count⟩
  case msg => decide
  case digest => decide
  case codeStr => decide
  case count => decide +kernel

/-- Settles O3: the ten table words are closed terms, which the decoder evaluates. -/
theorem handWrittenOpcodesDecode : Obligations.HandWrittenOpcodesDecode := by
  unfold Obligations.HandWrittenOpcodesDecode
  decide

end Sys2Proof

namespace Sys2Proof.Machine

/-- Settles O10: the four fields stand side by side, so each bit is read in its own field. -/
theorem statusFieldsAtTheirBits : Obligations.StatusFieldsAtTheirBits := by
  intro s
  refine ⟨BitVec.extractLsb'_append_eq_right, ?_⟩
  simp only [statusWord, BitVec.getLsbD_append]
  simp

end Sys2Proof.Machine
end

section
/-! Rules for the proofs of the family other: the ends of a command byte, in the states of the claims (45_commands.md R116 to
R122), from the case equations of SIGN, GENAT and GENNOW. -/

namespace Sys2Proof.Machine

/-- The operands of SIGN are accepted (45_commands.md R119). -/
structure SignerAccepts (s : State) : Prop where
  err : s.err = .noFault
  timestep : s.timestep ≠ 0
  keyLen : s.keyLen.toNat ≤ Config.keyMax

/-- The operands of GENAT and GENNOW are accepted (45_commands.md R119). -/
structure CodeAccepts (s : State) : Prop extends SignerAccepts s where
  digits : 1 ≤ s.digits.toNat ∧ s.digits.toNat ≤ 19

/-- The state a GENNOW generates from: the next sample drawn, its seconds in TIME (45_commands.md R121). -/
def atSample (s : State) : State := { sampled s with time := (nextSample s).sec }

/-- How a command byte, decoded, can end (45_commands.md R116 to R122, 60_exceptions.md R140, R141). -/
inductive CommandEnd (s : State) : Decoded → State → Prop
  | ignored {d : Decoded} (notClear : d ≠ .instr .clear) (latched : s.err ≠ .noFault) : CommandEnd s d s
  | fault {d : Decoded} {e : Err} (notClear : d ≠ .instr .clear) (none : s.err = .noFault) (raised : e ≠ .noFault)
      (notClock : e ≠ .clock) : CommandEnd s d (faulted e s)
  | clockFault (accepted : CodeAccepts s) (invalid : (nextSample s).valid = false) :
      CommandEnd s (.instr .gennow) (faulted .clock (sampled s))
  | signed (accepted : SignerAccepts s) : CommandEnd s (.instr .sign) (signedState s)
  | generated (accepted : CodeAccepts s) : CommandEnd s (.instr .genat) (generatedState s)
  | generatedNow (accepted : CodeAccepts s) (valid : (nextSample s).valid = true) :
      CommandEnd s (.instr .gennow) (generatedState (atSample s))
  | cleared : CommandEnd s (.instr .clear) (resetCore s)

/-- GENNOW in every case, through `atSample` (45_commands.md R121). -/
theorem exec_gennow_eq (s : State) : exec .gennow s = .next (
    if s.err ≠ .noFault then s
    else if s.timestep = 0 then faulted .timestep s
    else if Config.keyMax < s.keyLen.toNat then faulted .keyLen s
    else if s.digits = 0 ∨ 19 < s.digits.toNat then faulted .digits s
    else if (nextSample s).valid = false then faulted .clock (sampled s)
    else generatedState (atSample s)) := gennowInEveryCase s

/-- Accepted operands are accepted whatever else changes, so also with the sample's seconds in TIME. -/
theorem CodeAccepts.atSample {s : State} (h : CodeAccepts s) : CodeAccepts (atSample s) :=
  ⟨⟨h.err, h.timestep, h.keyLen⟩, h.digits⟩

theorem CodeAccepts.digits_not_out_of_range {s : State} (h : CodeAccepts s) : ¬(s.digits = 0 ∨ 19 < s.digits.toNat) := by
  rw [digits_out_of_range_iff]
  exact not_not.mpr h.digits

/-- SIGN on accepted operands (42_hmac_sign.md R98). -/
theorem exec_sign_of_accepts {s : State} (h : SignerAccepts s) : exec .sign s = .next (signedState s) := by
  rw [signInEveryCase s, if_neg (not_not.mpr h.err), if_neg h.timestep, if_neg h.keyLen.not_gt]

/-- GENAT on accepted operands (45_commands.md R120). -/
theorem exec_genat_of_accepts {s : State} (h : CodeAccepts s) : exec .genat s = .next (generatedState s) := by
  rw [genatInEveryCase s, if_neg (not_not.mpr h.err), if_neg h.timestep, if_neg h.keyLen.not_gt,
    if_neg h.digits_not_out_of_range]

/-- GENNOW on accepted operands: its one sample decides (45_commands.md R121). -/
theorem exec_gennow_of_accepts {s : State} (h : CodeAccepts s) : exec .gennow s = .next (
    if (nextSample s).valid = false then faulted .clock (sampled s) else generatedState (atSample s)) := by
  rw [exec_gennow_eq, if_neg (not_not.mpr h.err), if_neg h.timestep, if_neg h.keyLen.not_gt,
    if_neg h.digits_not_out_of_range]

/-- A command that answers a next state has one of the ends. -/
theorem exec_end {i : Instr} {s t : State} (h : exec i s = .next t) : CommandEnd s (.instr i) t := by
  cases i with
  | sign =>
    rw [signInEveryCase s] at h
    split_ifs at h with he ht hk <;> cases h
    · exact .ignored (by decide) he
    · exact .fault (by decide) (not_not.mp he) (by decide) (by decide)
    · exact .fault (by decide) (not_not.mp he) (by decide) (by decide)
    · exact .signed ⟨not_not.mp he, ht, not_lt.mp hk⟩
  | genat =>
    rw [genatInEveryCase s] at h
    simp only [digits_out_of_range_iff] at h
    split_ifs at h with he ht hk hr <;> cases h
    · exact .ignored (by decide) he
    · exact .fault (by decide) (not_not.mp he) (by decide) (by decide)
    · exact .fault (by decide) (not_not.mp he) (by decide) (by decide)
    · exact .generated ⟨⟨not_not.mp he, ht, not_lt.mp hk⟩, hr⟩
    · exact .fault (by decide) (not_not.mp he) (by decide) (by decide)
  | gennow =>
    rw [exec_gennow_eq] at h
    simp only [digits_out_of_range_iff] at h
    split_ifs at h with he ht hk hr hv <;> cases h
    · exact .ignored (by decide) he
    · exact .fault (by decide) (not_not.mp he) (by decide) (by decide)
    · exact .fault (by decide) (not_not.mp he) (by decide) (by decide)
    · exact .clockFault ⟨⟨not_not.mp he, ht, not_lt.mp hk⟩, hr⟩ hv
    · exact .generatedNow ⟨⟨not_not.mp he, ht, not_lt.mp hk⟩, hr⟩ (Bool.not_eq_false _ ▸ hv)
    · exact .fault (by decide) (not_not.mp he) (by decide) (by decide)
  | clear =>
    cases h
    exact .cleared

/-- A command byte that answers a next state has one of the ends. -/
theorem command_end {c : Byte} {s t : State} (h : command c s = .next t) : CommandEnd s (decode c) t := by
  rcases command_cases c s with ⟨i, hc, hs⟩ | ⟨hc, hs⟩
  · rw [hc]
    exact exec_end (hs ▸ h)
  · rw [command_of_illegal hc] at h
    rw [hc]
    split_ifs at h with he <;> cases h
    · exact .fault (by decide) he (by decide) (by decide)
    · exact .ignored (by decide) he

/-- Every command byte completes, in every state (45_commands.md R116). -/
theorem command_eq_next (c : Byte) (s : State) : ∃ t, command c s = .next t := by
  rcases command_cases c s with ⟨i, -, hs⟩ | ⟨-, hs⟩
  · rw [hs]
    exact exec_eq_next i s
  · exact ⟨_, hs⟩

/-- While a fault is latched everything but CLEAR is ignored (60_exceptions.md R141). -/
theorem CommandEnd.eq_of_latched {s t : State} {d : Decoded} (h : CommandEnd s d t) (he : s.err ≠ .noFault)
    (hd : d ≠ .instr .clear) : t = s := by
  cases h with
  | ignored => rfl
  | fault _ none => exact absurd none he
  | clockFault accepted => exact absurd accepted.err he
  | signed accepted => exact absurd accepted.err he
  | generated accepted => exact absurd accepted.err he
  | generatedNow accepted => exact absurd accepted.err he
  | cleared => exact absurd rfl hd

theorem exec_of_latched {i : Instr} {s : State} (he : s.err ≠ .noFault) (hi : i ≠ .clear) : exec i s = .next s := by
  obtain ⟨t, ht⟩ := exec_eq_next i s
  rw [ht, (exec_end ht).eq_of_latched he (by simpa using hi)]

theorem command_of_latched {c : Byte} {s : State} (he : s.err ≠ .noFault) (hc : c ≠ 0x04) : command c s = .next s := by
  have hdecode : decode c ≠ .instr .clear := fun h => hc (decode_eq_instr_iff.mp h).symm
  obtain ⟨t, ht⟩ := command_eq_next c s
  rw [ht, (command_end ht).eq_of_latched he hdecode]

/-- A GENAT from no fault to no fault is a good one (45_commands.md R120). -/
theorem good_genat {s t : State} (h : exec .genat s = .next t) (hs : s.err = .noFault) (ht : t.err = .noFault) :
    CodeAccepts s ∧ t = generatedState s := by
  cases exec_end h with
  | ignored _ latched => exact absurd hs latched
  | fault _ _ raised => exact absurd ht raised
  | generated accepted => exact ⟨accepted, rfl⟩

/-- A GENNOW from no fault to no fault is a good one (45_commands.md R121). -/
theorem good_gennow {s t : State} (h : exec .gennow s = .next t) (hs : s.err = .noFault) (ht : t.err = .noFault) :
    CodeAccepts s ∧ t = generatedState (atSample s) := by
  cases exec_end h with
  | ignored _ latched => exact absurd hs latched
  | fault _ _ raised => exact absurd ht raised
  | clockFault => cases ht
  | generatedNow accepted => exact ⟨accepted, rfl⟩

end Sys2Proof.Machine
end

section
/-! Proofs of the family other, the invariant of the core (10_state.md sections 6 to 9): the reset state meets it and every step
keeps it; what it says of STATUS. -/

namespace Sys2Proof.Machine

/-- The invariant speaks neither of the operand registers nor of what stands outside the core. -/
theorem CoreInv.withOperands {s : State} (h : CoreInv s) (keyLen : Word32) (digits : Byte) (timestep time : Word64)
    (env : Env) : CoreInv { s with keyLen := keyLen, digits := digits, timestep := timestep, time := time, env := env } :=
  ⟨h.code_sign, h.fault_flags, h.sign_results, h.code_results, h.key_wf, h.key_bound, h.hidden⟩

/-- A host write changes operand registers only (20_memory.md R44). -/
theorem writeOperand_eq (l : Loc) (v : Nat) (s : State) : writeOperand l v s =
    { s with
      keyLen := (writeOperand l v s).keyLen, digits := (writeOperand l v s).digits
      timestep := (writeOperand l v s).timestep, time := (writeOperand l v s).time } := by
  cases l <;> rfl

/-- With both flags 0 the invariant asks for zero results, canonical key memory inside space K and zero hidden state. -/
theorem coreInv_of_flags_clear {s : State} (hsign : s.vSign = false) (hcode : s.vCode = false) (hnoSign : noSignResults s)
    (hnoCode : noCodeResults s) (hwf : Memory.wf s.key) (hbound : ∀ c ∈ s.key, c.1 < Config.keyMax)
    (hhidden : s.hmac = .zero ∧ s.clockLatch = noSample) : CoreInv s where
  code_sign hc := absurd (hcode.symm.trans hc) Bool.false_ne_true
  fault_flags _ := ⟨hsign, hcode⟩
  sign_results := by simpa [hsign] using hnoSign
  code_results := by simpa [hcode] using hnoCode
  key_wf := hwf
  key_bound := hbound
  hidden := hhidden

/-- Fault entry clears the flags, the results and hidden state, and leaves key memory (60_exceptions.md R140). -/
theorem CoreInv.faulted {s : State} (h : CoreInv s) (e : Err) : CoreInv (faulted e s) :=
  coreInv_of_flags_clear rfl rfl ⟨rfl, rfl, rfl⟩ ⟨rfl, rfl, rfl, rfl, rfl⟩ h.key_wf h.key_bound ⟨rfl, rfl⟩

/-- Settles O59: at reset both flags are 0 and both groups zero, and key memory lists no byte. -/
theorem resetMeetsTheInvariant : Obligations.ResetMeetsTheInvariant :=
  coreInv_of_flags_clear rfl rfl ⟨rfl, rfl, rfl⟩ ⟨rfl, rfl, rfl, rfl, rfl⟩ Memory.wf_nil
    (fun _ hc => absurd hc List.not_mem_nil) ⟨rfl, rfl⟩

theorem coreInv_resetCore (s : State) : CoreInv (resetCore s) := resetMeetsTheInvariant.withOperands 0 0 0 0 s.env

/-- After a good SIGN the sign group holds the results of the operands SIGN has read, and the code group is zero (R25). -/
theorem CoreInv.signedState {s : State} (h : CoreInv s) (ha : SignerAccepts s) : CoreInv (signedState s) where
  code_sign hc := nomatch hc
  fault_flags he := absurd ha.err he
  sign_results := by
    rw [← signerStages_eq_signedState ha.timestep]
    exact ⟨signerOperands s ha.timestep, (length_secret s).trans_le ha.keyLen, rfl, rfl, rfl⟩
  code_results := ⟨rfl, rfl, rfl, rfl, rfl⟩
  key_wf := h.key_wf
  key_bound := h.key_bound
  hidden := ⟨rfl, rfl⟩

/-- After a good GENAT or GENNOW both groups hold the results of the operands the command has read (R25). -/
theorem CoreInv.generatedState {s : State} (h : CoreInv s) (ha : CodeAccepts s) : CoreInv (generatedState s) where
  code_sign _ := rfl
  fault_flags he := absurd ha.err he
  sign_results := by
    rw [← generate_eq_generatedState ha.timestep ha.digits]
    exact ⟨signerOperands s ha.timestep, (length_secret s).trans_le ha.keyLen, rfl, rfl, rfl⟩
  code_results := by
    rw [← generate_eq_generatedState ha.timestep ha.digits]
    exact ⟨ha.digits, rfl, rfl, rfl, rfl⟩
  key_wf := h.key_wf
  key_bound := h.key_bound
  hidden := ⟨rfl, rfl⟩

/-- Every end of a command keeps the invariant. -/
theorem CommandEnd.coreInv {s t : State} {d : Decoded} (hend : CommandEnd s d t) (h : CoreInv s) : CoreInv t := by
  have hsampled : CoreInv (sampled s) := h.withOperands s.keyLen s.digits s.timestep s.time _
  cases hend with
  | ignored => exact h
  | fault => exact h.faulted _
  | clockFault => exact hsampled.faulted .clock
  | signed accepted => exact h.signedState accepted
  | generated accepted => exact h.generatedState accepted
  | generatedNow accepted =>
    have hsample : CoreInv (atSample s) := h.withOperands s.keyLen s.digits s.timestep (nextSample s).sec _
    exact hsample.generatedState accepted.atSample
  | cleared => exact coreInv_resetCore s

/-- A key write inside space K keeps the canonical form (20_memory.md R41, R46). -/
theorem CoreInv.writeKey {s : State} (h : CoreInv s) {i : Nat} (hi : i < Config.keyMax) (b : Byte) :
    CoreInv { s with key := Memory.write s.key i b } where
  code_sign := h.code_sign
  fault_flags := h.fault_flags
  sign_results := h.sign_results
  code_results := h.code_results
  key_wf := Memory.write_wf h.key_wf i b
  key_bound c hc := (Memory.mem_write hc).elim (fun hindex => hindex ▸ hi) (h.key_bound c)
  hidden := h.hidden

/-- Every host event keeps the invariant. -/
theorem CoreInv.perform {s t : State} {ev : HostEvent} (h : CoreInv s) (hp : perform ev s = .next t) : CoreInv t := by
  have hread (v : ReadValue) : CoreInv (giveToHost v s) := h.withOperands s.keyLen s.digits s.timestep s.time _
  rcases perform_cases hp with ⟨c, hc, -⟩ | ⟨n, v, l, -, -, -, -, -, rfl⟩ | ⟨n, l, -, -, rfl⟩ | ⟨i, b, -, hi, -, rfl⟩ |
    ⟨i, -, -, rfl⟩ | ⟨-, rfl⟩
  · exact (command_end hc).coreInv h
  · rw [writeOperand_eq]
    exact h.withOperands _ _ _ _ s.env
  · exact hread _
  · exact h.writeKey hi _
  · exact hread _
  · exact coreInv_resetCore s

/-- Settles O60: a step is idle or one host event, and taking the event from the host's list is outside the core. -/
theorem everyStepKeepsTheInvariant : Obligations.EveryStepKeepsTheInvariant := by
  intro s t h hstep
  rcases step_cases hstep with ⟨-, rfl⟩ | ⟨ev, rest, -, hp⟩
  · exact h
  · have htaken : CoreInv (withPending rest s) := h.withOperands s.keyLen s.digits s.timestep s.time _
    exact htaken.perform hp

/-- With no fault latched STATUS is the valid flags alone (10_state.md R17). -/
theorem statusWord_of_noFault {s : State} (he : s.err = .noFault) :
    statusWord s = if s.vCode then (if s.vSign then 0x30 else 0x20) else if s.vSign then 0x10 else 0x00 := by
  rw [statusWord, he]
  cases s.vCode <;> cases s.vSign <;> rfl

theorem CoreInv.statusWord_legal {s : State} (h : CoreInv s) : statusWord s ∈ legalStatus := by
  by_cases he : s.err = .noFault
  · rw [statusWord_of_noFault he]
    have hcode := h.code_sign
    cases hv : s.vCode with
    | true => simp [hcode hv, legalStatus]
    | false => cases s.vSign <;> simp [legalStatus]
  · obtain ⟨hsign, hcode⟩ := h.fault_flags he
    rw [statusWord_of_flags_clear hsign hcode]
    cases s.err <;> decide

/-- The code is below `2^31` (43_truncation.md R103). -/
theorem dtCode31_lt (d : Vector Byte 20) : (dtCode31 d).toNat < 2 ^ 31 := by
  obtain ⟨-, -, hle⟩ := truncationReadsTheWindowBigEndian d _ rfl
  omega

/-- Settles O11: the invariant leaves eight values of STATUS, and OFFSET and CODE31 are zero or those of a digest. -/
theorem statusValuesAreLegal : Obligations.StatusValuesAreLegal := by
  intro s h
  refine ⟨h.statusWord_legal, ?_⟩
  have hcode := h.code_results
  split at hcode
  · obtain ⟨-, hoffset, hcode31, -⟩ := hcode
    rw [hoffset, hcode31, BitVec.toNat_setWidth_of_le (by decide)]
    exact ⟨(dtOffset s.digest).isLt, dtCode31_lt s.digest⟩
  · obtain ⟨hoffset, hcode31, -⟩ := hcode
    rw [hoffset, hcode31]
    decide

end Sys2Proof.Machine
end

section
/-! Proofs of the family other, secrecy of the key (10_state.md R31): what may not depend on the key bytes is the same when
every key byte, and every register that may depend on one, is blanked before the event. -/

namespace Sys2Proof.Machine

/-- An outcome with everything that may depend on the key bytes blanked in its next state. -/
def outcomeWithoutKey : Host.Outcome State Fault Refusal → Host.Outcome State Fault Refusal
  | .next s => .next (withoutKey s)
  | .fault r => .fault r
  | .refused r => .refused r

@[simp] theorem outcomeWithoutKey_next (s : State) : outcomeWithoutKey (.next s) = .next (withoutKey s) := rfl

/-- Outcomes are alike but for the key exactly when they are the same once blanked. -/
theorem sameButForKey_iff (o p : Host.Outcome State Fault Refusal) :
    sameButForKey o p ↔ outcomeWithoutKey o = outcomeWithoutKey p := by
  cases o <;> cases p <;> simp [sameButForKey, outcomeWithoutKey]

section
variable (s : State)

@[simp] theorem withoutKey_err : (withoutKey s).err = s.err := rfl
@[simp] theorem withoutKey_keyLen : (withoutKey s).keyLen = s.keyLen := rfl
@[simp] theorem withoutKey_digits : (withoutKey s).digits = s.digits := rfl
@[simp] theorem withoutKey_timestep : (withoutKey s).timestep = s.timestep := rfl
@[simp] theorem nextSample_withoutKey : nextSample (withoutKey s) = nextSample s := rfl
@[simp] theorem sampled_withoutKey : sampled (withoutKey s) = withoutKey (sampled s) := rfl
@[simp] theorem atSample_withoutKey : atSample (withoutKey s) = withoutKey (atSample s) := rfl
@[simp] theorem withoutKey_withoutKey : withoutKey (withoutKey s) = withoutKey s := rfl
@[simp] theorem withoutKey_faulted_withoutKey (e : Err) :
    withoutKey (faulted e (withoutKey s)) = withoutKey (faulted e s) := rfl

/-- Of what SIGN writes only DIGEST depends on the key. -/
@[simp] theorem withoutKey_signedState_withoutKey : withoutKey (signedState (withoutKey s)) = withoutKey (signedState s) := by
  simp only [withoutKey, signedState, counterNow]

/-- Of what GENAT and GENNOW write only the named registers depend on the key. -/
@[simp] theorem withoutKey_generatedState_withoutKey :
    withoutKey (generatedState (withoutKey s)) = withoutKey (generatedState s) := by
  simp only [withoutKey, generatedState, counterNow]

end

/-- A command ends the same but for the key: its checks read no key byte, and the digest and all that is computed from it is
among what is blanked. -/
theorem exec_withoutKey (i : Instr) (s : State) :
    outcomeWithoutKey (exec i (withoutKey s)) = outcomeWithoutKey (exec i s) := by
  cases i with
  | sign =>
    rw [signInEveryCase, signInEveryCase s, withoutKey_err, withoutKey_timestep, withoutKey_keyLen]
    split_ifs <;> simp
  | genat =>
    rw [genatInEveryCase, genatInEveryCase s, withoutKey_err, withoutKey_timestep, withoutKey_keyLen, withoutKey_digits]
    split_ifs <;> simp
  | gennow =>
    rw [exec_gennow_eq, exec_gennow_eq, withoutKey_err, withoutKey_timestep, withoutKey_keyLen, withoutKey_digits,
      nextSample_withoutKey]
    split_ifs <;> simp
  | clear => rfl

theorem command_withoutKey (c : Byte) (s : State) :
    outcomeWithoutKey (command c (withoutKey s)) = outcomeWithoutKey (command c s) := by
  cases hc : decode c with
  | instr i =>
    have hcommand (u : State) : command c u = exec i u := by simp only [command, hc]
    rw [hcommand, hcommand, exec_withoutKey]
  | illegal =>
    rw [command_of_illegal hc, command_of_illegal hc, withoutKey_err]
    split_ifs <;> simp

theorem writeOperand_withoutKey (l : Loc) (v : Nat) (s : State) :
    withoutKey (writeOperand l v (withoutKey s)) = withoutKey (writeOperand l v s) := by
  cases l <;> rfl

theorem hostWrite_withoutKey (n : Byte) (v : Nat) (s : State) :
    outcomeWithoutKey (hostWrite n v (withoutKey s)) = outcomeWithoutKey (hostWrite n v s) := by
  unfold hostWrite
  cases locate n with
  | none => rfl
  | some l =>
    dsimp only
    split_ifs
    · rfl
    · rfl
    · exact command_withoutKey _ s
    · exact congrArg Host.Outcome.next (writeOperand_withoutKey l v s)

/-- A location outside the named registers reads the same. -/
theorem readLoc_withoutKey {l : Loc} (hl : Loc.keyDependent l = false) (s : State) :
    readLoc (withoutKey s) l = readLoc s l := by
  cases l with
  | digest | offset | code31 | codeVal | codeStr => cases hl
  | cmd | status | keyLen | digits | timestep | time | counter | codeLen | msg => rfl

theorem hostRead_withoutKey {n : Byte} (hn : readsKeyResult (.rd n) = false) (s : State) :
    outcomeWithoutKey (hostRead n (withoutKey s)) = outcomeWithoutKey (hostRead n s) := by
  unfold hostRead
  unfold readsKeyResult at hn
  cases hl : locate n with
  | none => rfl
  | some l =>
    have hkey : Loc.keyDependent l = false := by simpa [hl] using hn
    dsimp only
    rw [readLoc_withoutKey hkey]
    rfl

theorem hostWriteKey_withoutKey (K i b : Nat) (s : State) :
    outcomeWithoutKey (hostWriteKey K i b (withoutKey s)) = outcomeWithoutKey (hostWriteKey K i b s) := by
  unfold hostWriteKey
  split_ifs <;> rfl

theorem hostReadKey_withoutKey (K i : Nat) (s : State) :
    outcomeWithoutKey (hostReadKey K i (withoutKey s)) = outcomeWithoutKey (hostReadKey K i s) := by
  unfold hostReadKey
  split_ifs <;> rfl

/-- An event that reads none of the named registers acts the same, but for the key, on the blanked state. -/
theorem perform_withoutKey {ev : HostEvent} (hev : readsKeyResult ev = false) (s : State) :
    outcomeWithoutKey (perform ev (withoutKey s)) = outcomeWithoutKey (perform ev s) := by
  cases ev with
  | wr n v => exact hostWrite_withoutKey n v s
  | rd n => exact hostRead_withoutKey hev s
  | wrk i b => exact hostWriteKey_withoutKey _ i b s
  | rdk i => exact hostReadKey_withoutKey _ i s
  | cmd c => exact command_withoutKey c s
  | rst => rfl

/-- Settles O45: both states are the same once blanked, and on each the event acts as on the blanked state. -/
theorem keyBytesShowOnlyInTheNamedRegisters : Obligations.KeyBytesShowOnlyInTheNamedRegisters := by
  intro ev s t hst hev
  rw [sameButForKey_iff, ← perform_withoutKey hev s, hst, perform_withoutKey hev t]

end Sys2Proof.Machine
end

section
/-! Proofs of the family other, the commands: what a good SIGN, GENAT or GENNOW leaves (42_hmac_sign.md section 2,
45_commands.md sections 2 and 3), and what no command but CLEAR touches. -/

namespace Sys2Proof.Machine

/-- Settles O43: `secret` maps the indices below KEYLEN, in order. -/
theorem secretIsTheFirstKeyLenBytes : Obligations.SecretIsTheFirstKeyLenBytes :=
  fun s => ⟨length_secret s, fun i hi => by simp [secret, hi]⟩

theorem counterNow_toNat (s : State) : (counterNow s).toNat = s.time.toNat / s.timestep.toNat := BitVec.toNat_udiv

/-- MSG reads back as COUNTER (40_counter_encoder.md R74). -/
theorem beVal_counterNow (s : State) : beVal (beBytes 8 (counterNow s).toNat).toList = (counterNow s).toNat :=
  (counterBytesAreBigEndian (counterNow s)).2

theorem statusWord_signedState {s : State} (he : s.err = .noFault) : statusWord (signedState s) = 0x10 :=
  statusWord_of_noFault (s := signedState s) he

theorem statusWord_generatedState {s : State} (he : s.err = .noFault) : statusWord (generatedState s) = 0x30 :=
  statusWord_of_noFault (s := generatedState s) he

/-- CODEVAL fits its register: it is at most CODE31 (44_digit_reducer.md R109). -/
theorem generatedState_codeVal_toNat (s : State) :
    (generatedState s).codeVal.toNat = (generatedState s).code31.toNat % 10 ^ s.digits.toNat := by
  have hfits : codeNow s < 2 ^ 64 := calc
    codeNow s ≤ (dtCode31 (digestNow s)).toNat := Nat.mod_le _ _
    _ < 2 ^ 64 := (dtCode31_lt _).trans (by decide)
  exact (BitVec.toNat_ofNat _ _).trans (Nat.mod_eq_of_lt hfits)

/-- OFFSET is the low nibble of the last digest byte (43_truncation.md R102). -/
theorem generatedState_offset_toNat (s : State) :
    (generatedState s).offset.toNat = (generatedState s).digest[19].toNat % 16 :=
  toNat_and_lowMask (n := 4) rfl _

/-- CODE31 is the window at OFFSET, read big-endian, modulo `2^31` (43_truncation.md R103). -/
theorem generatedState_code31_toNat (s : State) : (generatedState s).code31.toNat =
    beVal (((generatedState s).digest.toList.drop (generatedState s).offset.toNat).take 4) % 2 ^ 31 := by
  obtain ⟨-, hcode, -⟩ := truncationReadsTheWindowBigEndian (generatedState s).digest _ rfl
  rw [dtOffset_toNat, ← generatedState_offset_toNat] at hcode
  exact hcode

/-- Settles O13: on accepted operands SIGN leaves `signedState`, whose registers are read off. -/
theorem signCompletes : Obligations.SignCompletes := by
  intro s he ht hk
  exact ⟨signedState s, exec_sign_of_accepts ⟨he, ht, hk⟩, statusWord_signedState he, counterNow_toNat s, beVal_counterNow s,
    rfl, rfl, rfl, rfl, rfl, rfl⟩

/-- Settles O15: on accepted operands GENAT leaves `generatedState`, whose registers are read off. -/
theorem genatCompletes : Obligations.GenatCompletes := by
  intro s he ht hk hpos hle
  exact ⟨generatedState s, exec_genat_of_accepts ⟨⟨he, ht, hk⟩, hpos, hle⟩, statusWord_generatedState he, counterNow_toNat s,
    beVal_counterNow s, rfl, generatedState_offset_toNat s, generatedState_code31_toNat s, generatedState_codeVal_toNat s, rfl⟩

/-- Settles O18: GENNOW leaves what GENAT leaves with the sample's seconds in TIME. -/
theorem gennowCompletes : Obligations.GennowCompletes := by
  intro s he ht hk hpos hle hvalid
  have hexec := exec_gennow_of_accepts (s := s) ⟨⟨he, ht, hk⟩, hpos, hle⟩
  rw [if_neg (by simp [hvalid])] at hexec
  exact ⟨generatedState (atSample s), hexec, statusWord_generatedState he, rfl, counterNow_toNat (atSample s),
    beVal_counterNow (atSample s), rfl, generatedState_codeVal_toNat (atSample s), rfl⟩

/-- No command but CLEAR writes KEYLEN, DIGITS, TIMESTEP or key memory, or touches the host (45_commands.md R124). -/
theorem CommandEnd.frame {s t : State} {d : Decoded} (h : CommandEnd s d t) (hd : d ≠ .instr .clear) :
    t.keyLen = s.keyLen ∧ t.digits = s.digits ∧ t.timestep = s.timestep ∧ t.key = s.key ∧
      t.env.pending = s.env.pending ∧ t.env.returned = s.env.returned := by
  cases h with
  | ignored | fault | clockFault | signed | generated | generatedNow => exact ⟨rfl, rfl, rfl, rfl, rfl, rfl⟩
  | cleared => exact absurd rfl hd

/-- Only GENNOW writes TIME or samples the clock, and CLEAR writes TIME. -/
theorem CommandEnd.time_env {s t : State} {d : Decoded} (h : CommandEnd s d t) (hclear : d ≠ .instr .clear)
    (hgennow : d ≠ .instr .gennow) : t.time = s.time ∧ t.env = s.env := by
  cases h with
  | ignored | fault | signed | generated => exact ⟨rfl, rfl⟩
  | clockFault | generatedNow => exact absurd rfl hgennow
  | cleared => exact absurd rfl hclear

/-- Settles O16: neither SIGN nor GENAT is CLEAR or GENNOW, the only commands that write an operand, a key byte or the port. -/
theorem signAndGenatFrame : Obligations.SignAndGenatFrame := by
  intro i s t hi h
  have hclear : Decoded.instr i ≠ .instr .clear := by rcases hi with rfl | rfl <;> decide
  have hgennow : Decoded.instr i ≠ .instr .gennow := by rcases hi with rfl | rfl <;> decide
  obtain ⟨hkeyLen, hdigits, htimestep, hkey, -⟩ := (exec_end h).frame hclear
  obtain ⟨htime, henv⟩ := (exec_end h).time_env hclear hgennow
  exact ⟨hkeyLen, hdigits, htimestep, htime, fun a => by rw [hkey], hkey, henv⟩

/-- What GENNOW does to TIME and to the clock port (45_commands.md R121). -/
theorem gennow_time_env {s t : State} (h : exec .gennow s = .next t) :
    (t.time = s.time ∨ t.time = (nextSample s).sec ∧ (nextSample s).valid = true) ∧
      (t.env = s.env ∨ t.env = (sampled s).env) := by
  cases exec_end h with
  | ignored | fault => exact ⟨.inl rfl, .inl rfl⟩
  | clockFault => exact ⟨.inl rfl, .inr rfl⟩
  | generatedNow _ valid => exact ⟨.inr ⟨rfl, valid⟩, .inr rfl⟩

/-- Settles O19: the frame of every command but CLEAR, and GENNOW's own two writes. -/
theorem gennowFrame : Obligations.GennowFrame := by
  intro s t h
  obtain ⟨hkeyLen, hdigits, htimestep, hkey, hpending, hreturned⟩ := (exec_end h).frame (by decide)
  obtain ⟨htime, henv⟩ := gennow_time_env h
  exact ⟨hkeyLen, hdigits, htimestep, htime, fun i => by rw [hkey], hkey, hpending, hreturned, henv⟩

/-- Settles O26: CLEAR and the reset input both leave `resetCore`, which keeps `env`. -/
theorem clearAndResetLeaveTheOutsideAlone : Obligations.ClearAndResetLeaveTheOutsideAlone := by
  intro s t h
  rw [exec_clear, perform_rst, or_self] at h
  cases h
  exact resetCore_env s

/-- A rendered byte is an ASCII digit exactly below the digit count (44_digit_reducer.md R111, R112). -/
theorem codeString_isDigit_iff (v : Word64) (n : Nat) (i : Fin 19) :
    i.val < n ↔ 0x30 ≤ ((codeString v n)[i]).toNat ∧ ((codeString v n)[i]).toNat ≤ 0x39 := by
  have hget : (codeString v n)[i] = if i.val < n then renderChar v n i else 0x00 := codeString_get v n i i.isLt
  rw [hget]
  split_ifs with hi
  · rw [renderChar_toNat]
    omega
  · simp [hi]

/-- CODESTR after a good GENAT or GENNOW is a rendered string of DIGITS characters (44_digit_reducer.md R112). -/
theorem generatedState_codeStr {s : State} (h : CodeAccepts s) :
    ∃ v, (generatedState s).codeStr = codeString v s.digits.toNat := by
  rw [← generate_eq_generatedState h.timestep h.digits]
  exact ⟨_, rfl⟩

/-- After a good GENAT or GENNOW the code is DIGITS ASCII digits, with zero bytes beyond (44_digit_reducer.md R112). -/
theorem generatedState_code {s : State} (h : CodeAccepts s) :
    (codeText (generatedState s)).length = s.digits.toNat ∧
    ∀ i : Fin 19, (i.val < s.digits.toNat ↔
        0x30 ≤ ((generatedState s).codeStr[i]).toNat ∧ ((generatedState s).codeStr[i]).toNat ≤ 0x39) ∧
      (s.digits.toNat ≤ i.val → (generatedState s).codeStr[i] = 0x00) := by
  obtain ⟨v, hv⟩ := generatedState_codeStr h
  refine ⟨?length, fun i => ?byte⟩
  case length =>
    have hlen : (codeText (generatedState s)).length = min s.digits.toNat 19 := by simp [codeText, generatedState]
    rw [hlen, min_eq_left h.digits.2]
  case byte =>
    rw [hv]
    refine ⟨codeString_isDigit_iff v _ i, fun hi => ?_⟩
    exact (codeString_get v _ i i.isLt).trans (if_neg hi.not_gt)

/-- Settles O58: a good GENAT or GENNOW leaves a generated state, with the same DIGITS. -/
theorem codeHasExactlyDigitsCharacters : Obligations.CodeHasExactlyDigitsCharacters := by
  rintro s t hs (h | h) ht
  · obtain ⟨haccepts, rfl⟩ := good_genat h hs ht
    exact ⟨rfl, generatedState_code haccepts⟩
  · obtain ⟨haccepts, rfl⟩ := good_gennow h hs ht
    exact ⟨rfl, generatedState_code haccepts.atSample⟩

end Sys2Proof.Machine
end

section
/-! Proofs of the family other, what the commands depend on (45_commands.md section 5): two states that hold the same operands
of SIGN end the same, and so the equivalences between the commands. -/

namespace Sys2Proof.Machine

/-- Two states without a fault in which the Signer reads the same: the checked operands, the secret and the counter. -/
structure SameSigning (s t : State) : Prop where
  left_err : s.err = .noFault
  right_err : t.err = .noFault
  keyLen : s.keyLen = t.keyLen
  timestep : s.timestep = t.timestep
  secret : secret s = secret t
  counter : counterNow s = counterNow t

theorem SameSigning.digest {s t : State} (h : SameSigning s t) : digestNow s = digestNow t := by
  rw [digestNow, digestNow, h.secret, h.counter]

theorem sameResults_faulted (e : Err) (s t : State) : sameResults (faulted e s) (faulted e t) :=
  ⟨rfl, rfl, rfl, rfl, rfl, rfl, rfl, rfl, rfl, rfl, rfl⟩

theorem SameSigning.signedState {s t : State} (h : SameSigning s t) : sameResults (signedState s) (signedState t) :=
  ⟨h.left_err.trans h.right_err.symm, rfl, rfl, h.counter, rfl, rfl, rfl, rfl,
    congrArg be8 h.counter, h.digest, rfl⟩

theorem SameSigning.generatedState {s t : State} (h : SameSigning s t) (hdigits : s.digits = t.digits) :
    sameResults (generatedState s) (generatedState t) := by
  have hcode : codeNow s = codeNow t := by rw [codeNow, codeNow, h.digest, hdigits]
  simp only [sameResults, Machine.generatedState, h.left_err, h.right_err, h.counter, h.digest, hcode, hdigits, and_self]

/-- SIGN ends the same from two states in which it reads the same. -/
theorem SameSigning.exec_sign {s t a b : State} (h : SameSigning s t) (ha : exec .sign s = .next a)
    (hb : exec .sign t = .next b) : sameResults a b := by
  rw [signInEveryCase s, if_neg (not_not.mpr h.left_err), h.timestep, h.keyLen] at ha
  rw [signInEveryCase t, if_neg (not_not.mpr h.right_err)] at hb
  split_ifs at ha hb <;> cases ha <;> cases hb
  · exact sameResults_faulted .timestep s t
  · exact sameResults_faulted .keyLen s t
  · exact h.signedState

/-- GENAT ends the same from two states in which it reads the same. -/
theorem SameSigning.exec_genat {s t a b : State} (h : SameSigning s t) (hdigits : s.digits = t.digits)
    (ha : exec .genat s = .next a) (hb : exec .genat t = .next b) : sameResults a b := by
  rw [genatInEveryCase s, if_neg (not_not.mpr h.left_err), h.timestep, h.keyLen, hdigits] at ha
  rw [genatInEveryCase t, if_neg (not_not.mpr h.right_err)] at hb
  split_ifs at ha hb <;> cases ha <;> cases hb
  · exact sameResults_faulted .timestep s t
  · exact sameResults_faulted .keyLen s t
  · exact sameResults_faulted .digits s t
  · exact h.generatedState hdigits

/-- GENNOW ends the same from two states in which it reads the same once the sample's seconds are in TIME. -/
theorem SameSigning.exec_gennow {s t a b : State} (h : SameSigning (atSample s) (atSample t)) (hdigits : s.digits = t.digits)
    (hsample : nextSample s = nextSample t) (ha : exec .gennow s = .next a) (hb : exec .gennow t = .next b) :
    sameResults a b := by
  have hs : s.err = .noFault := h.left_err
  have ht : t.err = .noFault := h.right_err
  have htimestep : s.timestep = t.timestep := h.timestep
  have hkeyLen : s.keyLen = t.keyLen := h.keyLen
  rw [exec_gennow_eq, if_neg (not_not.mpr hs), htimestep, hkeyLen, hdigits, hsample] at ha
  rw [exec_gennow_eq, if_neg (not_not.mpr ht)] at hb
  split_ifs at ha hb <;> cases ha <;> cases hb
  · exact sameResults_faulted .timestep s t
  · exact sameResults_faulted .keyLen s t
  · exact sameResults_faulted .digits s t
  · exact sameResults_faulted .clock (sampled s) (sampled t)
  · exact h.generatedState hdigits

/-- The secret is read from the key bytes below KEYLEN only (10_state.md R32). -/
theorem secret_congr {s t : State} (hkeyLen : s.keyLen = t.keyLen)
    (hkey : ∀ i, i < s.keyLen.toNat → Memory.read s.key i = Memory.read t.key i) : secret s = secret t := by
  rw [secret, secret, ← hkeyLen]
  exact List.map_congr_left fun i hi => hkey i (List.mem_range.mp hi)

/-- Settles O22: equal operands give the same secret and counter; GENNOW's TIME is the sample's seconds in both states. -/
theorem commandsAreDeterminedByTheirOperands : Obligations.CommandsAreDeterminedByTheirOperands := by
  intro s t hs ht hkeyLen htimestep hkey
  have hsecret : secret s = secret t := secret_congr hkeyLen hkey
  have hsame (htime : s.time = t.time) : SameSigning s t :=
    ⟨hs, ht, hkeyLen, htimestep, hsecret, by rw [counterNow, counterNow, htime, htimestep]⟩
  refine ⟨fun htime a b => (hsame htime).exec_sign, fun htime hdigits a b => (hsame htime).exec_genat hdigits,
    fun hsample hdigits a b ha hb => ?gennow⟩
  have hcounter : counterNow (atSample s) = counterNow (atSample t) := by
    simp only [counterNow, atSample, sampled, hsample, htimestep]
  have hresults : sameResults a b :=
    SameSigning.exec_gennow ⟨hs, ht, hkeyLen, htimestep, hsecret, hcounter⟩ hdigits hsample ha hb
  refine ⟨hresults, fun hgood => ?_⟩
  obtain ⟨-, rfl⟩ := good_gennow ha hs hgood
  obtain ⟨-, rfl⟩ := good_gennow hb ht (hresults.1 ▸ hgood)
  exact congrArg ClockSample.sec hsample

/-- Settles O23: of TIME the Signer reads only the quotient. -/
theorem oneWindowGivesOneCode : Obligations.OneWindowGivesOneCode := by
  intro s x y hs _ hwindow
  have hcounter : x / s.timestep = y / s.timestep := by
    apply BitVec.eq_of_toNat_eq
    rw [BitVec.toNat_udiv, BitVec.toNat_udiv, hwindow]
  have hsame : SameSigning { s with time := x } { s with time := y } := ⟨hs, hs, rfl, rfl, rfl, hcounter⟩
  exact ⟨fun a b => hsame.exec_sign, fun a b => hsame.exec_genat rfl⟩

/-- Settles O20: the sample GENNOW takes is kept apart from what GENAT computes with. -/
theorem gennowEqualsTimeWriteThenGenat : Obligations.GennowEqualsTimeWriteThenGenat := by
  intro s t h hs ht
  obtain ⟨haccepts, rfl⟩ := good_gennow h hs ht
  obtain ⟨-, -, -, hwrite⟩ := operandWriteTakesTheWholeValue s (nextSample s).sec.toNat
  refine ⟨{ s with time := (nextSample s).sec }, ?write, ?genat⟩
  case write =>
    rw [hwrite (nextSample s).sec.isLt, BitVec.ofNat_toNat, BitVec.setWidth_eq]
  case genat =>
    exact exec_genat_of_accepts ⟨⟨haccepts.err, haccepts.timestep, haccepts.keyLen⟩, haccepts.digits⟩

/-- Settles O21: operands GENAT accepts SIGN accepts, and both leave the same counter, message and digest. -/
theorem genatAndSignAgreeOnTheDigest : Obligations.GenatAndSignAgreeOnTheDigest := by
  intro s a b ha hb hs hgood
  obtain ⟨haccepts, rfl⟩ := good_genat hb hs hgood
  rw [exec_sign_of_accepts haccepts.toSignerAccepts] at ha
  cases ha
  exact ⟨hs, rfl, rfl, rfl⟩

/-- SIGN computes its results from operands, which it does not write (10_state.md R32). -/
theorem signedState_signedState (s : State) : signedState (signedState s) = signedState s := by
  have hcounter : counterNow (signedState s) = counterNow s := rfl
  have hdigest : digestNow (signedState s) = digestNow s := rfl
  rw [signedState, hcounter, hdigest, signedState]

/-- GENAT computes its results from operands, which it does not write (10_state.md R32). -/
theorem generatedState_generatedState (s : State) : generatedState (generatedState s) = generatedState s := by
  have hcounter : counterNow (generatedState s) = counterNow s := rfl
  have hdigest : digestNow (generatedState s) = digestNow s := rfl
  have hcode : codeNow (generatedState s) = codeNow s := rfl
  rw [generatedState, hcounter, hdigest, hcode, generatedState]

/-- Settles O24: the faulted ends are ignored the second time, and the good ones compute the same again. -/
theorem signAndGenatAreIdempotent : Obligations.SignAndGenatAreIdempotent := by
  refine fun s t => ⟨fun h => ?sign, fun h => ?genat⟩
  case sign =>
    cases exec_end h with
    | ignored => exact h
    | fault _ _ raised => exact exec_of_latched raised (by decide)
    | signed accepted =>
      have hagain : SignerAccepts (signedState s) := ⟨accepted.err, accepted.timestep, accepted.keyLen⟩
      rw [exec_sign_of_accepts hagain, signedState_signedState]
  case genat =>
    cases exec_end h with
    | ignored => exact h
    | fault _ _ raised => exact exec_of_latched raised (by decide)
    | generated accepted =>
      have hagain : CodeAccepts (generatedState s) := ⟨⟨accepted.err, accepted.timestep, accepted.keyLen⟩, accepted.digits⟩
      rw [exec_genat_of_accepts hagain, generatedState_generatedState]

end Sys2Proof.Machine
end

section
/-! Proofs of the family other, faults (60_exceptions.md sections 1 and 4): which operands raise which, that a fault latched
stays, and that a fault has no other effect. -/

namespace Sys2Proof.Machine

/-- Settles O28: TIMESTEP is the first check of all three commands. -/
theorem zeroTimestepFaults : Obligations.ZeroTimestepFaults := by
  intro i s hi he ht
  refine ⟨faulted .timestep s, ?_, rfl, statusWord_faulted .timestep s⟩
  cases i with
  | sign => rw [signInEveryCase s, if_neg (not_not.mpr he), if_pos ht]
  | genat => rw [genatInEveryCase s, if_neg (not_not.mpr he), if_pos ht]
  | gennow => rw [exec_gennow_eq, if_neg (not_not.mpr he), if_pos ht]
  | clear => exact absurd rfl hi

theorem validateSigner_of_long_key {K : Nat} {s : State} (ht : s.timestep ≠ 0) (hk : K < s.keyLen.toNat) :
    validateSigner K s = .error .keyLen := by
  rw [validateSigner, dif_neg ht, if_pos hk]

theorem validateCode_of_long_key {K : Nat} {s : State} (ht : s.timestep ≠ 0) (hk : K < s.keyLen.toNat) :
    validateCode K s = .error .keyLen := by
  rw [validateCode, dif_neg ht, if_pos hk]

/-- Settles O29: the operand checks of the three commands stop at KEYLEN, for a key memory of any capacity. -/
theorem keyLongerThanKeyMemoryFaults : Obligations.KeyLongerThanKeyMemoryFaults := by
  refine ⟨fun K s he ht hk => ⟨?sign, ?genat, ?gennow⟩, fun s => ⟨rfl, exec_genat s, exec_gennow s⟩⟩
  case sign =>
    rw [signWith, if_neg (not_not.mpr he), validateSigner_of_long_key (s := resultsClear s) ht hk]
    rfl
  case genat =>
    rw [genatWith, if_neg (not_not.mpr he), validateCode_of_long_key (s := resultsClear s) ht hk]
    rfl
  case gennow =>
    rw [gennowWith, if_neg (not_not.mpr he), validateCode_of_long_key (s := resultsClear s) ht hk]
    rfl

/-- Settles O30: the third check of GENAT and GENNOW fails, before the sample; SIGN has no such check. -/
theorem digitsOutOfRangeFaults : Obligations.DigitsOutOfRangeFaults := by
  intro s he ht hk hout
  have hdigits : s.digits = 0 ∨ 19 < s.digits.toNat := hout
  refine ⟨?genat, ?gennow, signedState s, exec_sign_of_accepts ⟨he, ht, hk⟩, he⟩
  case genat => rw [genatInEveryCase s, if_neg (not_not.mpr he), if_neg ht, if_neg hk.not_gt, if_pos hdigits]
  case gennow => rw [exec_gennow_eq, if_neg (not_not.mpr he), if_neg ht, if_neg hk.not_gt, if_pos hdigits]

/-- Settles O31: past the configuration checks an invalid sample ends GENNOW in fault entry, which keeps TIME. -/
theorem invalidClockSampleFaults : Obligations.InvalidClockSampleFaults := by
  intro s he ht hk hpos hle hinvalid
  have hexec := exec_gennow_of_accepts (s := s) ⟨⟨he, ht, hk⟩, hpos, hle⟩
  rw [if_pos hinvalid] at hexec
  exact ⟨faulted .clock (sampled s), hexec, statusWord_faulted .clock _, rfl, rfl⟩

/-- Settles O33: `WR 0x00` is the command, and every command but CLEAR is ignored while a fault is latched. -/
theorem faultedCoreIgnoresCommands : Obligations.FaultedCoreIgnoresCommands := by
  intro c s he hc
  have hignored : command c s = .next s := command_of_latched he hc
  exact ⟨hignored, (hostWrite_cmd c s).trans hignored⟩

/-- An event that runs a command byte is one of its two forms (20_memory.md R42). -/
theorem perform_command_form {n c : Byte} {v : Nat} (hn : locate n = some .cmd) (hv : v < 2 ^ 8) (hc : c = BitVec.ofNat 8 v) :
    HostEvent.wr n v = .wr 0x00 c.toNat := by
  have hnumber : n = 0x00 := (locate_eq_some_iff.mp hn).symm
  rw [hnumber, hc, BitVec.toNat_ofNat, Nat.mod_eq_of_lt hv]

/-- The events that put the core in the reset state: CLEAR in its two forms, and the reset input (60_exceptions.md R142). -/
def Resets (ev : HostEvent) : Prop := ev = .cmd 0x04 ∨ ev = .wr 0x00 4 ∨ ev = .rst

/-- CLEAR has no other end than the reset state (45_commands.md R122). -/
theorem CommandEnd.eq_resetCore {s t : State} (h : CommandEnd s (.instr .clear) t) : t = resetCore s := by
  cases h with
  | ignored notClear | fault notClear => exact absurd rfl notClear
  | cleared => rfl

/-- A host event that answers a next state resets the core, ends as a command other than CLEAR, stores an operand register or a
key byte, or gives the host a value. -/
theorem perform_effect {ev : HostEvent} {s t : State} (h : perform ev s = .next t) :
    (Resets ev ∧ t = resetCore s) ∨
    (∃ d, d ≠ .instr .clear ∧ CommandEnd s d t) ∨
    (∃ l v, t = writeOperand l v s) ∨
    (∃ i b, ev = .wrk i b ∧ t = { s with key := Memory.write s.key i (BitVec.ofNat 8 b) }) ∨
    (∃ v, t = giveToHost v s) := by
  rcases perform_cases h with ⟨c, hc, hev⟩ | ⟨n, v, l, -, -, -, -, -, ht⟩ | ⟨n, l, -, -, ht⟩ | ⟨i, b, hev, -, -, ht⟩ |
    ⟨i, -, -, ht⟩ | ⟨hev, ht⟩
  · have hend := command_end hc
    by_cases hclear : decode c = .instr .clear
    · have hbyte : c = 0x04 := (decode_eq_instr_iff.mp hclear).symm
      rw [hclear] at hend
      refine .inl ⟨?_, hend.eq_resetCore⟩
      rcases hev with rfl | ⟨n, v, rfl, hn, hv, hcv⟩
      · exact .inl (by rw [hbyte])
      · exact .inr (.inl (by rw [perform_command_form hn hv hcv, hbyte]; rfl))
    · exact .inr (.inl ⟨decode c, hclear, hend⟩)
  · exact .inr (.inr (.inl ⟨l, v, ht⟩))
  · exact .inr (.inr (.inr (.inr ⟨_, ht⟩)))
  · exact .inr (.inr (.inr (.inl ⟨i, b, hev, ht⟩)))
  · exact .inr (.inr (.inr (.inr ⟨_, ht⟩)))
  · exact .inl ⟨.inr (.inr hev), ht⟩

@[simp] theorem writeOperand_err (l : Loc) (v : Nat) (s : State) : (writeOperand l v s).err = s.err := by
  rw [writeOperand_eq]

@[simp] theorem writeOperand_key (l : Loc) (v : Nat) (s : State) : (writeOperand l v s).key = s.key := by
  rw [writeOperand_eq]

@[simp] theorem writeOperand_env (l : Loc) (v : Nat) (s : State) : (writeOperand l v s).env = s.env := by
  rw [writeOperand_eq]

/-- Settles O34: while a fault is latched a command other than CLEAR is ignored, and no other event writes ERR. -/
theorem faultsAreStickyAndDoNotNest : Obligations.FaultsAreStickyAndDoNotNest := by
  intro s t he hstep
  rcases step_cases hstep with ⟨-, rfl⟩ | ⟨ev, rest, hpending, hp⟩
  · exact .inl rfl
  rcases perform_effect hp with ⟨hresets, rfl⟩ | ⟨d, hd, hend⟩ | ⟨l, v, rfl⟩ | ⟨i, b, -, rfl⟩ | ⟨v, rfl⟩
  · refine .inr ⟨⟨rest, ?_⟩, rfl⟩
    rcases hresets with rfl | rfl | rfl
    · exact .inl hpending
    · exact .inr (.inl hpending)
    · exact .inr (.inr hpending)
  · exact .inl (by rw [hend.eq_of_latched he hd, withPending_err])
  · exact .inl (by rw [writeOperand_err, withPending_err])
  · exact .inl rfl
  · exact .inl rfl

/-- Settles O35: the faulted ends of a command are fault entry, from `s` or, for ERR_CLOCK, from `s` with its sample taken. -/
theorem faultsArePrecise : Obligations.FaultsArePrecise := by
  intro c s t hs h hfault
  have hend : CommandEnd s (decode c) t := command_end h
  generalize decode c = d at hend
  cases hend with
  | ignored => exact absurd hs hfault
  | fault => exact ⟨rfl, rfl, rfl, fun _ => rfl⟩
  | clockFault => exact ⟨rfl, rfl, rfl, fun hclock => absurd rfl hclock⟩
  | signed => exact absurd hs hfault
  | generated => exact absurd hs hfault
  | generatedNow => exact absurd hs hfault
  | cleared => exact absurd rfl hfault

end Sys2Proof.Machine
end

section
/-! Proofs of the family other, the step and the host port (20_memory.md sections 2 and 5, 70_reset_and_hazards.md section 5),
and key memory as data. -/

namespace Sys2Proof.Machine

/-- A step performs the oldest pending event, taken from the host's list (70_reset_and_hazards.md R163). -/
theorem step_of_pending {s : State} {ev : HostEvent} {rest : List HostEvent} (h : s.env.pending = ev :: rest) :
    step s = perform ev (withPending rest s) := by
  rw [step, takeEvent, h]

theorem command_of_decode {c : Byte} {i : Instr} (h : decode c = .instr i) (s : State) : command c s = exec i s := by
  rw [command, h]

/-- Settles O5: both forms perform `command`, which runs the decoded command. -/
theorem stepRunsTheDecodedCommand : Obligations.StepRunsTheDecodedCommand := by
  intro s c i rest hc
  have hrun : command c (withPending rest s) = exec i (withPending rest s) := command_of_decode hc _
  refine ⟨fun h => ?cmd, fun h => ?wr⟩
  case cmd => exact (step_of_pending h).trans hrun
  case wr => exact ((step_of_pending h).trans (hostWrite_cmd c _)).trans hrun

/-- Settles O6: `takeEvent` finds nothing to take. -/
theorem stepWithNothingPendingIsIdle : Obligations.StepWithNothingPendingIsIdle := by
  intro s h
  rw [step, takeEvent, h]

theorem hostRead_eq_next {n : Byte} {l : Loc} (hl : locate n = some l) (s : State) :
    hostRead n s = .next (giveToHost (readLoc s l) s) := by
  rw [hostRead, hl]

theorem hostReadKey_eq_next {K i : Nat} (hi : i < K) (s : State) : hostReadKey K i s = .next (giveToHost (.byte 0x00) s) := by
  rw [hostReadKey, if_neg hi.not_ge]

/-- A well formed host event always completes (20_memory.md R49). -/
theorem perform_of_wellFormed {ev : HostEvent} (h : ev.wellFormed Config.keyMax = true) (s : State) :
    ∃ t, perform ev s = .next t := by
  cases ev with
  | wr n v =>
    cases hl : locate n with
    | none => simp [HostEvent.wellFormed, hl] at h
    | some l =>
      obtain ⟨hw, hv⟩ : l.hostWrites = true ∧ v < 2 ^ l.width := by simpa [HostEvent.wellFormed, hl] using h
      by_cases hc : l = .cmd
      · subst hc
        have hform : HostEvent.wr n v = .wr 0x00 (BitVec.ofNat 8 v).toNat := perform_command_form hl hv rfl
        obtain ⟨t, ht⟩ := command_eq_next (BitVec.ofNat 8 v) s
        exact ⟨t, by rw [hform]; exact (hostWrite_cmd _ s).trans ht⟩
      · exact ⟨_, hostWrite_eq_next s hl hc hw hv⟩
  | rd n =>
    obtain ⟨l, hl⟩ := Option.isSome_iff_exists.mp h
    exact ⟨_, hostRead_eq_next hl s⟩
  | wrk i b =>
    obtain ⟨hi, hb⟩ : i < Config.keyMax ∧ b < 2 ^ 8 := by simpa [HostEvent.wellFormed] using h
    exact ⟨_, hostWriteKey_eq_next s hi hb⟩
  | rdk i =>
    have hi : i < Config.keyMax := by simpa [HostEvent.wellFormed] using h
    exact ⟨_, hostReadKey_eq_next hi s⟩
  | cmd c => exact command_eq_next c s
  | rst => exact ⟨_, perform_rst s⟩

/-- A host event that completes is well formed (20_memory.md R49). -/
theorem wellFormed_of_perform {ev : HostEvent} {s t : State} (h : perform ev s = .next t) :
    ev.wellFormed Config.keyMax = true := by
  rcases perform_cases h with ⟨c, -, rfl | ⟨n, v, rfl, hl, hv, -⟩⟩ | ⟨n, v, l, rfl, hl, -, hw, hv, -⟩ | ⟨n, l, rfl, hl, -⟩ |
    ⟨i, b, rfl, hi, hb, -⟩ | ⟨i, rfl, hi, -⟩ | ⟨rfl, -⟩
  · rfl
  · have hwidth : v < 2 ^ Loc.cmd.width := hv
    simp [HostEvent.wellFormed, hl, hwidth, Loc.hostWrites]
  · simp [HostEvent.wellFormed, hl, hw, hv]
  · simp [HostEvent.wellFormed, hl]
  · simp only [HostEvent.wellFormed, hi, hb, decide_true, Bool.and_self]
  · simp only [HostEvent.wellFormed, hi, decide_true]
  · rfl

/-- Settles O7: the step is the pending event's, and an event completes exactly when it is well formed. -/
theorem wellFormedEventsAlwaysStep : Obligations.WellFormedEventsAlwaysStep := by
  intro s ev rest hpending
  rw [step_of_pending hpending]
  refine ⟨fun h => perform_of_wellFormed h _, fun h t ht => ?_⟩
  rw [wellFormed_of_perform ht] at h
  cases h

/-- No host event adds to the host's list or takes from it. -/
theorem perform_pending {ev : HostEvent} {s t : State} (h : perform ev s = .next t) : t.env.pending = s.env.pending := by
  rcases perform_effect h with ⟨-, rfl⟩ | ⟨d, hd, hend⟩ | ⟨l, v, rfl⟩ | ⟨i, b, -, rfl⟩ | ⟨v, rfl⟩
  · rfl
  · obtain ⟨-, -, -, -, hpending, -⟩ := hend.frame hd
    exact hpending
  · rw [writeOperand_env]
  · rfl
  · rfl

/-- Settles O8: the step takes its event, and performing it leaves the list alone. -/
theorem stepTakesOneEvent : Obligations.StepTakesOneEvent := by
  intro s t ev rest hpending hstep
  rw [step_of_pending hpending] at hstep
  exact perform_pending hstep

/-- Settles O44: past the reset and the key write, no command but CLEAR and no other event writes key memory. -/
theorem onlyClearResetAndKeyWritesChangeTheKey : Obligations.OnlyClearResetAndKeyWritesChangeTheKey := by
  intro ev s t h hchanged
  rcases perform_effect h with ⟨hresets, -⟩ | ⟨d, hd, hend⟩ | ⟨l, v, rfl⟩ | ⟨i, b, hev, -⟩ | ⟨v, rfl⟩
  · rcases hresets with hcmd | hwr | hrst
    · exact .inr (.inl hcmd)
    · exact .inr (.inr (.inl hwr))
    · exact .inl hrst
  · obtain ⟨-, -, -, hkey, -⟩ := hend.frame hd
    exact absurd hkey hchanged
  · exact absurd (writeOperand_key l v s) hchanged
  · exact .inr (.inr (.inr ⟨i, b, hev⟩))
  · exact absurd (giveToHost_key s v) hchanged

/-- Settles O37: a location's number addresses it, and each value is `readLoc`'s. -/
theorem readReturnsTheLocation : Obligations.ReadReturnsTheLocation :=
  ⟨fun l s => hostRead_eq_next (locate_number l) s, fun _ =>
    ⟨rfl, rfl, rfl, rfl, rfl, rfl, rfl, rfl, rfl, rfl, fun _ => rfl, fun _ => rfl, fun _ => rfl⟩⟩

/-- Settles O38: CMD is the location numbered 0x00. -/
theorem readOfCmdReturnsZero : Obligations.ReadOfCmdReturnsZero :=
  fun s => hostRead_eq_next (locate_number .cmd) s

/-- Settles O42: a key read inside space K hands the host 0x00, and `RDK` is that read at capacity KEY_MAX. -/
theorem keyReadReturnsZero : Obligations.KeyReadReturnsZero :=
  ⟨fun _ _ s hi => hostReadKey_eq_next hi s, fun _ _ => rfl⟩

theorem Memory.read_head (c : Host.Cell) (m : Memory) : Memory.read (c :: m) c.1 = c.2 := if_pos rfl

theorem Memory.read_of_ne {c : Host.Cell} {i : Nat} (h : c.1 ≠ i) (m : Memory) : Memory.read (c :: m) i = Memory.read m i :=
  if_neg h

/-- The listed indices rise, so the first is below the others. -/
theorem Memory.head_lt {c : Host.Cell} {m : Memory} (h : Memory.wf (c :: m)) : ∀ d ∈ m, c.1 < d.1 :=
  (List.pairwise_cons.mp h.1).1

/-- The first listed index of a canonical memory is not above that of one that reads the same: its byte is not 0x00. -/
theorem Memory.head_le_of_read_eq {c d : Host.Cell} {m n : Memory} (hm : Memory.wf (c :: m)) (hn : Memory.wf (d :: n))
    (h : ∀ i, Memory.read (c :: m) i = Memory.read (d :: n) i) : d.1 ≤ c.1 := by
  by_contra hlt
  have hunlisted : Memory.read (d :: n) c.1 = 0 := by
    refine Memory.read_of_lt fun e he => ?_
    rcases List.mem_cons.mp he with rfl | he
    · omega
    · have hrising : d.1 < e.1 := Memory.head_lt hn e he
      omega
  have hzero : c.2 = 0 := by rw [← Memory.read_head c m, h, hunlisted]
  exact hm.2 c List.mem_cons_self hzero

/-- Canonical memories that read the same list the same cells. -/
theorem Memory.ext_read {m n : Memory} (hm : Memory.wf m) (hn : Memory.wf n) (h : ∀ i, Memory.read m i = Memory.read n i) :
    m = n := by
  induction m generalizing n with
  | nil =>
    cases n with
    | nil => rfl
    | cons d n => exact absurd ((h d.1).trans (Memory.read_head d n)).symm (hn.2 d List.mem_cons_self)
  | cons c m ih =>
    cases n with
    | nil => exact absurd ((Memory.read_head c m).symm.trans (h c.1)) (hm.2 c List.mem_cons_self)
    | cons d n =>
      have hindex : c.1 = d.1 :=
        le_antisymm (Memory.head_le_of_read_eq hn hm fun i => (h i).symm) (Memory.head_le_of_read_eq hm hn h)
      have hbyte : c.2 = d.2 := by rw [← Memory.read_head c m, h, hindex, Memory.read_head]
      have htail : m = n := by
        refine ih (Memory.wf_tail hm) (Memory.wf_tail hn) fun i => ?_
        by_cases hi : c.1 = i
        · rw [← hi, Memory.read_of_lt (Memory.head_lt hm), hindex, Memory.read_of_lt (Memory.head_lt hn)]
        · rw [← Memory.read_of_ne hi m, h, Memory.read_of_ne (hindex ▸ hi)]
      rw [Prod.ext hindex hbyte, htail]

/-- Settles O41: a canonical memory lists exactly the bytes that are not 0x00, in order. -/
theorem equalKeyBytesAreEqualData : Obligations.EqualKeyBytesAreEqualData :=
  fun _ _ => Memory.ext_read

/-- A key byte written twice is written once (20_memory.md section 5). -/
theorem Memory.write_write {m : Memory} (h : Memory.wf m) (i : Nat) (b : Byte) :
    Memory.write (Memory.write m i b) i b = Memory.write m i b := by
  have hwritten : Memory.wf (Memory.write m i b) := Memory.write_wf h i b
  refine Memory.ext_read (Memory.write_wf hwritten i b) hwritten fun j => ?_
  rw [Memory.read_write hwritten, Memory.read_write h]
  split_ifs <;> rfl

theorem writeOperand_writeOperand (l : Loc) (v : Nat) (s : State) :
    writeOperand l v (writeOperand l v s) = writeOperand l v s := by
  cases l <;> rfl

/-- Settles O40: the same write is accepted again, and stores the byte or the value that is already there. -/
theorem hostWritesAreIdempotent : Obligations.HostWritesAreIdempotent := by
  refine ⟨fun K i b s t hwf h => ?key, fun n v s t hn h => ?operand⟩
  case key =>
    unfold hostWriteKey at h
    split_ifs at h with hi hb
    cases h
    rw [hostWriteKey_eq_next _ (not_le.mp hi) (not_le.mp hb), Memory.write_write hwf]
  case operand =>
    rcases hostWrite_cases h with ⟨hcmd, -⟩ | ⟨l, hl, hc, hw, hv, rfl⟩
    · exact absurd (locate_eq_some_iff.mp hcmd).symm hn
    · rw [hostWrite_eq_next _ hl hc hw hv, writeOperand_writeOperand]

end Sys2Proof.Machine
end

section
/-! Proofs of the family other, the stages: the SHA-1 engine's chaining registers (41_sha1.md R89), and large digit counts
(44_digit_reducer.md R109, R111). -/

namespace Sys2Proof.Machine

/-- The chaining registers after some blocks are the compression of those blocks (41_sha1.md R86, R89). -/
theorem chain_foldl_engineAbsorb (blocks : List (Vector Byte 64)) (e : Sha1Engine) :
    (blocks.foldl engineAbsorb e).chain = blocks.foldl sha1Compress e.chain := by
  induction blocks generalizing e with
  | nil => rfl
  | cons B blocks ih => exact ih (engineAbsorb e B)

theorem sha1_eq_serialise_chain (m : List Byte) : sha1 m = serialise (engineRun m).chain := by
  rw [sha1, engineRun, chain_foldl_engineAbsorb]

/-- Settles O51: engine and hash fold the same blocks, and the HMAC unit's engine is left by the outer hash. -/
theorem engineEndsWithTheHash : Obligations.EngineEndsWithTheHash :=
  fun key m => ⟨sha1_eq_serialise_chain m, sha1_eq_serialise_chain (outerInput key m)⟩

/-- A character whose weight exceeds the value is '0' (44_digit_reducer.md R111). -/
theorem renderChar_of_lt {v : Word64} {n i : Nat} (h : v.toNat < 10 ^ (n - 1 - i)) : renderChar v n i = 0x30 := by
  apply BitVec.eq_of_toNat_eq
  rw [renderChar_toNat, Nat.div_eq_of_lt h]
  rfl

/-- Settles O56: a 31-bit code is below `10^10`, so no power of ten from there on divides into it. -/
theorem largeDigitCountsKeepTheWholeInteger : Obligations.LargeDigitCountsKeepTheWholeInteger := by
  intro c n h hc hn
  have hlt {k : Nat} (hk : 10 ≤ k) : c.toNat < 10 ^ k := calc
    c.toNat < 2 ^ 31 := hc
    _ ≤ 10 ^ 10 := by decide
    _ ≤ 10 ^ k := Nat.pow_le_pow_right (by decide) hk
  have hvalue : (reduceCode c n h).toNat = c.toNat := by rw [reduceCode_toNat, Nat.mod_eq_of_lt (hlt hn)]
  refine ⟨hvalue, fun i hi => ?_⟩
  have hchar : (codeString (reduceCode c n h) n)[i] = renderChar (reduceCode c n h) n i :=
    (codeString_get _ n i i.isLt).trans (if_pos (by omega))
  rw [hchar, renderChar_of_lt]
  rw [hvalue]
  exact hlt (by omega)

end Sys2Proof.Machine
end
